-- ==== Sys2Proof/Word.lean ====
section
/-! DEFINITION. The words of the LB540 and their plainest arithmetic: bytes, 16- and 32-bit fields,
and one packed dot row of a band buffer (R4, R13). -/

namespace Sys2Proof

/-- One byte of a memory structure. -/
abbrev Byte := BitVec 8

/-- A 16-bit field or ring index (00_scope.md, Indices: free-running, modulo 65536). -/
abbrev Half := BitVec 16

/-- A 32-bit address or register value. -/
abbrev Word := BitVec 32

/-- Dots in one row of a band buffer: 256 bytes (R13). A constant with a name, so that no proof
meets the number 2 ^ 2048 by accident. -/
def dotsPerRow : Nat := 2048

/-- Rows of one band buffer (R13). -/
def rowsPerBuffer : Nat := 64

/-- One packed dot row of a band buffer or of the head (R4, R13): dot 0 is the most significant
bit. -/
abbrev Row := BitVec dotsPerRow

/-- `n` divided by 8, rounded up: the bytes of a packed row of `n` dots (R4). -/
def ceilBytes (n : Nat) : Nat := (n + 7) / 8

/-- Bands of a grid of `rows` rows cut at band height `height`: ceil(R/B) (R12). -/
def bandCount (rows height : Nat) : Nat := (rows + height - 1) / height

end Sys2Proof
end

