-- ==== Sys2Proof/Syntax.lean ====
section
/-! DEFINITION. The commands of the LB540: one constructor per row of spec/opcode_table.json, with
the operands the cited rule gives the row. -/

namespace Sys2Proof

/-- The two submission rings, and so the two render sides (R20, R139). -/
inductive Ring where
  | print
  | image
  deriving DecidableEq, Repr

/-- The other ring. -/
def Ring.other : Ring → Ring
  | .print => .image
  | .image => .print

/-- How a bus read ends: with a bus error on any of its transactions, or with the data read. -/
inductive BusRead (α : Type) where
  | busError
  | data (bytes : α)
  deriving DecidableEq, Repr

/-- How a bus write ends: every transaction acknowledged, or a bus error on any of them. -/
inductive BusWrite where
  | acknowledged
  | busError
  deriving DecidableEq, Repr

/-- The width of a register access (R206). The spec says only "narrower than 32 bits"; that such an
access is of whole bytes, 8, 16 or 24 bits, is a DESIGN CHOICE (log 31). -/
inductive AccessWidth where
  | eight
  | sixteen
  | twentyFour
  | full
  deriving DecidableEq, Repr

/-- The commands, in the table's order. Structures read from memory are given as one number whose
byte at offset k is bits 8k+7..8k, that is, little-endian (R203). -/
inductive Instr where
  /-- START written to CMD (R187). -/
  | start
  /-- STOP written to CMD (R191, R192). -/
  | stop
  /-- ABORT_PRINT written to CMD (R120, R160). -/
  | abortPrint
  /-- ABORT_IMAGE written to CMD (R134, R160). -/
  | abortImage
  /-- RESET_PRINT_RING written to CMD (R164). -/
  | resetPrintRing
  /-- RESET_IMAGE_RING written to CMD (R164). -/
  | resetImageRing
  /-- ENGINE_RESET written to CMD (R197). -/
  | engineReset
  /-- A full write to CMD of a value that names no command (R207). -/
  | cmdUndefinedCode (value : Word)
  /-- A write to SETUP (R200). -/
  | setupWrite (value : Word)
  /-- A write to PPOST (ring PRINT) or IPOST (ring IMAGE) (R141). -/
  | producerWrite (ring : Ring) (value : Word)
  /-- A write to CREAD (R178). -/
  | creadWrite (value : Word)
  /-- A write to CAUSE (R181). -/
  | causeWrite (value : Word)
  /-- A write to IEN (R182). -/
  | ienWrite (value : Word)
  /-- A narrow write, or a write to a read-only register or an unused offset (R199, R206). -/
  | registerWriteIgnored (offset : BitVec 6) (width : AccessWidth) (value : Word)
  /-- RESET_N is asserted (R196). -/
  | resetN
  /-- RESET_N is deasserted (R196). -/
  | resetNDeasserted
  /-- A ROW_STEP event (R104). -/
  | rowStep
  /-- A MARK event (R102). -/
  | mark
  /-- The coalescing timer expires (R180). -/
  | coalescingTimerExpiry
  /-- The burn-main width expires (R106). -/
  | burnMainEnd
  /-- The burn-boost width expires (R107). -/
  | burnBoostEnd
  /-- The setup fetch of an accepted START begins (R188, R198). -/
  | setupFetchStart
  /-- The setup fetch ends with a bus error or the 64 bytes of the setup block (R188, R189). -/
  | setupFetchEnd (result : BusRead (BitVec 512))
  /-- A descriptor fetch of the ring begins (R147). -/
  | descriptorFetchStart (ring : Ring)
  /-- The ring's descriptor fetch ends with a bus error or the 32 bytes (R150). -/
  | descriptorFetchEnd (ring : Ring) (result : BusRead (BitVec 256))
  /-- A held LABEL is taken (R151). -/
  | heldLabelTake
  /-- The ring's state-record load ends with a bus error or the 48 bytes (R84). -/
  | stateRecordLoadEnd (ring : Ring) (result : BusRead (BitVec 384))
  /-- The arbiter grants the rasterizer (R73). -/
  | rasterizerGrant
  /-- The object record read ends with a bus error or the 32 bytes (R22). -/
  | recordFetchEnd (result : BusRead (BitVec 256))
  /-- A read of object data ends with a bus error or the bytes asked for (R37). -/
  | objectDataReadEnd (result : BusRead (List Byte))
  /-- The band render ends after RETIRE (R75). -/
  | bandRenderEnd
  /-- The band render is cut at an object boundary (R76). -/
  | bandRenderCut
  /-- A row write ends (R129). -/
  | rowWriteEnd (result : BusWrite)
  /-- The head-current label leaves WAITING (R97). -/
  | leaveWaiting
  /-- A label leaves the label list (R122). -/
  | labelLeavesList
  /-- The write of one completion record begins (R172). -/
  | completionWriteStart
  /-- A completion write ends (R173). -/
  | completionWriteEnd (result : BusWrite)
  /-- A discarded bus transaction ends (R198). -/
  | discardedTransactionEnd
  /-- The engine leaves DRAINING for STOPPED (R193). -/
  | drainToStopped
  deriving DecidableEq, Repr

end Sys2Proof
end

