-- ==== Sys2Proof/Decode.lean ====
section
/-! DEFINITION. What spells a command. No row of spec/opcode_table.json gives any bits ("fields" is
empty and no row has "fixed"), so no word of the table spells one (log 21). What the host spells
commands with is a write to the register window, which is read here. -/

namespace Sys2Proof

/-- The command a word of `nbits` bits spells by the table's bits: none, for every word. -/
def decodeTableWord (_nbits _w : Nat) : Option Instr := none

/-- The command of a code written to CMD, judged as a whole value (Table 11-14, R207). -/
def commandOfCode (value : Word) : Option Instr :=
  match value.toNat with
  | 1 => some .start
  | 2 => some .stop
  | 3 => some .abortPrint
  | 4 => some .abortImage
  | 5 => some .resetPrintRing
  | 6 => some .resetImageRing
  | 7 => some .engineReset
  | _ => none

/-- The command that a write of the host to an offset of the window is (R199, R206, R207, Table
11-12). Only a full write reaches a register. A full write at an offset that is no multiple of 4 is
ignored, which the spec does not say: DESIGN CHOICE (log 31). -/
def windowWrite (offset : BitVec 6) (width : AccessWidth) (value : Word) : Instr :=
  match width with
  | .eight | .sixteen | .twentyFour => .registerWriteIgnored offset width value
  | .full =>
    match offset.toNat with
    | 0x00 => (commandOfCode value).getD (.cmdUndefinedCode value)
    | 0x08 => .setupWrite value
    | 0x0C => .producerWrite .print value
    | 0x10 => .producerWrite .image value
    | 0x1C => .creadWrite value
    | 0x20 => .causeWrite value
    | 0x24 => .ienWrite value
    | _ => .registerWriteIgnored offset .full value

end Sys2Proof
end

