-- ==== Sys2Proof/Config.lean ====
section
/-! DEFINITION. The values the spec leaves open: constants with no body, so that no proof can lean
on what they are. -/

namespace Sys2Proof

/-- What a row of a band buffer holds after RESET_N ("arbitrary values", R80), for the `n`th value
drawn since reset and row `row` of the four buffers counted together (0 to 255). Free value, log
9. -/
opaque Config.arbitraryRow (n row : Nat) : Row

/-- How many bus transactions BEYOND ONE an operation still has outstanding when ENGINE_RESET or
HALTED counts them (R198: a read or write "may be carried out as one or more bus transactions"),
for the `n`th value drawn since reset. Free value, log 8. -/
opaque Config.extraTransactions (n : Nat) : Nat

end Sys2Proof
end

