-- ==== Sys2Proof/Machine/State.lean ====
section
/-! DEFINITION. Everything the spec gives the LB540 to hold, as plain data: the blocks of
00_scope.md's Functional Overview, each with the fields its chapter's table lists, and their values
at reset. Access to the parts goes through the named updates of this file and of Ops.lean. -/

namespace Sys2Proof.Machine

/-- One value for each submission ring or render side. -/
structure PerRing (α : Type) where
  print : α
  image : α
  deriving DecidableEq, Repr

/-- The value of a ring. -/
def PerRing.get {α : Type} (p : PerRing α) : Ring → α
  | .print => p.print
  | .image => p.image

/-- The pair with one ring's value replaced. -/
def PerRing.set {α : Type} (p : PerRing α) (r : Ring) (a : α) : PerRing α :=
  match r with
  | .print => ⟨a, p.image⟩
  | .image => ⟨p.print, a⟩

/-! ### Engine control (chapter 10) -/

/-- Engine states (R183). -/
inductive EngineState where
  | stopped
  | starting
  | running
  | draining
  | halted
  deriving DecidableEq, Repr

/-- Why the engine halted: the ring whose completion record was lost (R194). -/
inductive HaltReason where
  | none
  | printRecord
  | imageRecord
  deriving DecidableEq, Repr

/-- The setup fetch of a START: none, waiting for discarded transactions to end (R198), or in
flight (R188). -/
inductive SetupFetch where
  | idle
  | waiting
  | inFlight
  deriving DecidableEq, Repr

/-- The setup parameters (Table 11-3), written all together at a successful setup outcome (R190).
Durations are in microseconds. -/
structure SetupParams where
  headWidth : Nat
  bandHeight : Nat
  stallThreshold : Nat
  burnMain : Nat
  burnBoost : Nat
  coalesceCount : Nat
  coalesceTime : Nat
  ringBase : PerRing Word
  ringSize : PerRing Nat
  completionBase : Word
  completionSize : Nat
  deriving DecidableEq, Repr

/-- The engine control record (Table 10-1), with the setup fetch of R188. -/
structure EngineControl where
  state : EngineState
  pendingStop : Bool
  params : Option SetupParams
  setupAddress : Word
  setupFetch : SetupFetch
  faultCode : Nat
  haltReason : HaltReason
  discarded : Nat
  deriving DecidableEq, Repr

/-! ### Submission rings (chapter 8) -/

/-- Ring states (R139, R144). The flush boundary has meaning in FLUSHING only, which carries it. -/
inductive RingState where
  | active
  | flushing (boundary : Half)
  | faultedOverrun
  | faultedFetch
  deriving DecidableEq, Repr

/-- The take in flight of a ring (R139): none, a descriptor fetch with its address and whether its
data are to be discarded (R147, R148), or a held LABEL with its bytes (R151). -/
inductive TakeInFlight where
  | none
  | fetch (address : Word) (discard : Bool)
  | held (bytes : BitVec 256)
  deriving DecidableEq, Repr

/-- A ring record (Table 8-1), less base and size, which stand in the setup parameters. -/
structure RingRecord where
  producer : Half
  consumer : Half
  state : RingState
  take : TakeInFlight
  deriving DecidableEq, Repr

/-! ### Completions (chapter 9) -/

/-- Status codes (Table 9-9). -/
inductive Status where
  | ok
  | aborted
  | flushed
  | badKind
  | badDescriptor
  | stateFault
  | objectFault
  | fetchError
  | writeError
  | tableFull
  | underrun
  | noMark
  deriving DecidableEq, Repr

/-- The four warnings of a completion record (R176). -/
structure Warnings where
  lateObject : Bool
  shortSource : Bool
  glyphMissing : Bool
  padded : Bool
  deriving DecidableEq, Repr

/-- The results written when a retire entry is marked finished (R170). -/
structure Results where
  status : Status
  warnings : Warnings
  rowsPadded : Nat
  signature : Half
  admitted : Nat
  faultIndex : Half
  deriving DecidableEq, Repr

/-- A retire entry (Table 9-4): the finished flag is set exactly when results stand. -/
structure RetireEntry where
  ringIndex : Half
  tag : Half
  kind : Byte
  results : Option Results
  deriving DecidableEq, Repr

/-- A completion write in flight (R173): the ring of the entry written, the slot's address and the
16 bytes of the record. -/
structure CompletionWrite where
  ring : Ring
  address : Word
  record : BitVec 128
  deriving DecidableEq, Repr

/-- The completion unit (Table 9-1), less base, size, C and T, which stand in the setup parameters.
The timer is none when stopped, else the microseconds that remain. -/
structure CompletionUnit where
  cpost : Half
  cread : Half
  reserved : Nat
  retire : PerRing (List RetireEntry)
  reservationTurn : Ring
  postingTurn : Ring
  write : Option CompletionWrite
  timer : Option Nat
  deriving DecidableEq, Repr

/-! ### Render state (chapter 5) -/

/-- The concrete combine ops (R8, codes 0 to 3). -/
inductive CombineOp where
  | set
  | clear
  | invert
  | replace
  deriving DecidableEq, Repr

/-- A render state (Table 5-1). Pattern row n is bits 8n+7..8n of `pattern`, its bit 0 the
leftmost dot (R10). -/
structure RenderState where
  originX : Int
  originY : Int
  clipLeft : Nat
  clipTop : Nat
  clipRight : Nat
  clipBottom : Nat
  pattern : BitVec 64
  defaultOp : CombineOp
  glyphTable : Word
  glyphCount : Nat
  glyphBase : Word
  extraSpacing : Int
  strokeWidth : Nat
  deriving DecidableEq, Repr

/-- What a state-record load serves (R84): a LABEL or a STATE by its ring index, or the image job. -/
inductive LoadJob where
  | label (ringIndex : Half)
  | image
  | state (ringIndex : Half)
  deriving DecidableEq, Repr

/-- A state-record load in flight (R84), with the display list of its job, which goes to the walker
context at R21, and whether ABORT_x has ended a STATE (R92). -/
structure StateLoad where
  job : LoadJob
  address : Word
  listAddress : Word
  objectCount : Nat
  aborted : Bool
  deriving DecidableEq, Repr

/-! ### Display lists and the active object table (chapters 2 and 3) -/

/-- The body fields of a valid object record (Table 2-2), a STROKE's width resolved (R19). -/
inductive ObjectBody where
  | rule (width height : Nat)
  | stroke (x1 y1 : Int) (width : Nat)
  | bitmap (width height stride scaleX scaleY : Nat) (address : Word) (length : Nat)
  | text (address : Word) (count ascent descent : Nat)
  | bars (address : Word) (count moduleWidth height : Nat)
  deriving DecidableEq, Repr

/-- A valid object record: header (Table 2-1) and body. `op` is none for DEFAULT (R17). -/
structure ObjectFields where
  op : Option CombineOp
  pattern : Bool
  x : Int
  y : Int
  body : ObjectBody
  deriving DecidableEq, Repr

/-- A pending object: read and found valid but not yet admitted, with its extent (R20). -/
structure PendingObject where
  index : Nat
  fields : ObjectFields
  top : Int
  bottom : Int
  deriving DecidableEq, Repr

/-- An item of a TEXT's placement list (R53): a present code's glyph record and its pen column. -/
structure GlyphItem where
  pen : Int
  width : Nat
  height : Nat
  ascent : Nat
  offset : Word
  deriving DecidableEq, Repr

/-- A run of a BARS with the column at which it begins (R58). -/
structure Bar where
  start : Int
  width : Nat
  ink : Bool
  deriving DecidableEq, Repr

/-- The progress of a table entry (Table 3-11). A BITMAP's `next` is the first source row not yet
read and `kept` the bytes of the last row read, which is row `next - 1`. -/
inductive Progress where
  | rule
  | stroke
  | bitmap (next : Nat) (kept : List Byte)
  | text (placed : Option (List GlyphItem))
  | bars (runs : Option (List Bar))
  deriving DecidableEq, Repr

/-- An entry of the active object table (Table 2-4). -/
structure TableEntry where
  index : Nat
  fields : ObjectFields
  op : CombineOp
  top : Int
  bottom : Int
  progress : Progress
  deriving DecidableEq, Repr

/-- A job as its bands and its walker context name it: a label entry, by its ring index (log 19),
or the image job. -/
inductive Owner where
  | label (ringIndex : Half)
  | image
  deriving DecidableEq, Repr

/-- A walker context (R20), with the display list of its job (R15). -/
structure WalkerContext where
  job : Option Owner
  listAddress : Word
  objectCount : Nat
  nextIndex : Nat
  pending : Option PendingObject
  deriving DecidableEq, Repr

/-! ### Band buffers and the rasterizer (chapter 4) -/

/-- Band buffer states (R62). -/
inductive BandState where
  | free
  | filling
  | ready
  | printing
  | draining
  deriving DecidableEq, Repr

/-- A band record (Table 4-1) with its 64 rows of dots. -/
structure BandBuffer where
  state : BandState
  owner : Option Owner
  index : Nat
  first : Nat
  count : Nat
  rows : List Row
  deriving DecidableEq, Repr

/-- The four band buffers (R62). -/
structure Bands where
  b0 : BandBuffer
  b1 : BandBuffer
  b2 : BandBuffer
  b3 : BandBuffer
  deriving DecidableEq, Repr

/-- A buffer number (R62). -/
abbrev BufferId := Fin 4

/-- The buffer of a number. -/
def Bands.get (b : Bands) : BufferId → BandBuffer
  | 0 => b.b0
  | 1 => b.b1
  | 2 => b.b2
  | 3 => b.b3

/-- The buffers with one replaced. -/
def Bands.set (b : Bands) (i : BufferId) (x : BandBuffer) : Bands :=
  match i with
  | 0 => { b with b0 := x }
  | 1 => { b with b1 := x }
  | 2 => { b with b2 := x }
  | 3 => { b with b3 := x }

/-- The buffer numbers in order. -/
def bufferIds : List BufferId := [0, 1, 2, 3]

/-- A glyph bitmap row to be painted (R55): its pen column, width, grid row and address. -/
structure GlyphRow where
  pen : Int
  width : Nat
  gridRow : Int
  address : Word
  deriving DecidableEq, Repr

/-- Where the painting of an entry stands while a read of its data is in flight: which read of the
kind's order it is, and what the entry has gathered in this band (R36, R37). -/
inductive PaintWork where
  | bitmapRow (row : Nat) (rest : List Nat)
  | textString
  | textGlyph (code : Half) (rest : List Half) (placed : List GlyphItem) (pen : Int)
  | textRow (row : GlyphRow) (rest : List GlyphRow) (gathered : List (GlyphRow × List Byte))
  | barRuns
  deriving DecidableEq, Repr

/-- The read a band render waits for: none, an object record (R22), or object data (R37). -/
inductive RenderRead where
  | none
  | record (address : Word)
  | object (address : Word) (length : Nat) (work : PaintWork)
  deriving DecidableEq, Repr

/-- The steps of a band render (R75). The clear itself is done within the grant; a render stands in
CLEAR at the boundary after it when an end of its job comes together with the grant (R74, R76). -/
inductive RenderStep where
  | clear
  | admission
  | paint
  | retire
  deriving DecidableEq, Repr

/-- The render record (Table 4-4). `entry` is the place in the table of the entry being painted. -/
structure RenderRecord where
  side : Ring
  job : Owner
  buffer : BufferId
  band : Nat
  first : Nat
  last : Nat
  step : RenderStep
  entry : Nat
  cutPending : Bool
  read : RenderRead
  deriving DecidableEq, Repr

/-! ### Printing labels (chapter 6) -/

/-- Render status of a label (R94). -/
inductive RenderStatus where
  | loading
  | rendering
  | rendered
  | cut
  deriving DecidableEq, Repr

/-- Print status of a label (R94). -/
inductive PrintStatus where
  | waiting
  | aligning
  | printing
  | ended
  deriving DecidableEq, Repr

/-- What a job reports besides its rows: warnings, end status, fault index, objects admitted
(R32 to R34, R39). -/
structure JobReport where
  warnings : Warnings
  status : Option Status
  faultIndex : Half
  admitted : Nat
  deriving DecidableEq, Repr

/-- A label entry (Table 6-1). -/
structure LabelEntry where
  ringIndex : Half
  tag : Half
  length : Nat
  pad : Bool
  align : Bool
  markLimit : Nat
  renderStatus : RenderStatus
  printStatus : PrintStatus
  nextBand : Nat
  cursor : Nat
  rowsSent : Nat
  rowsPadded : Nat
  steps : Nat
  signature : Half
  report : JobReport
  deriving DecidableEq, Repr

/-- What a delivery carries (R103): a rendered row taken from a buffer, or padding of some rows. -/
inductive DeliveryKind where
  | row (buffer : BufferId)
  | padded (rows : Nat)
  deriving DecidableEq, Repr

/-- The phases of a delivery (R103). -/
inductive DeliveryPhase where
  | mainShift
  | mainBurn
  | boostShift
  | boostBurn
  deriving DecidableEq, Repr

/-- The delivery in flight (R103), with the main plane it shifts (R106) and its boost plane
(R107). -/
structure Delivery where
  label : Half
  kind : DeliveryKind
  phase : DeliveryPhase
  main : Row
  boost : Row
  deriving DecidableEq, Repr

/-- The pending padded delivery (R103, R110). -/
structure PendingPad where
  label : Half
  rows : Nat
  deriving DecidableEq, Repr

/-- The head port (R103), less the pins. -/
structure HeadPort where
  delivery : Option Delivery
  pendingPad : Option PendingPad
  h1 : Row
  h2 : Row
  deriving DecidableEq, Repr

/-- The output pins: IRQ (R182) and the head port's (Table 6-5), by their levels between commands.
`shifted` is what SHIFT_DATA has sent for the phase of the delivery that stands, one dot for each
rising edge of SHIFT_CLK in their order, true for ink (R4, R106, R107); it is empty with no delivery
in flight. -/
structure Pins where
  irq : Bool
  stall : Bool
  burnMain : Bool
  burnBoost : Bool
  shiftClk : Bool
  shiftData : Bool
  latch : Bool
  shifted : List Bool
  deriving DecidableEq, Repr

/-! ### Rendering to memory (chapter 7) -/

/-- Phases of the image job (R127). -/
inductive ImagePhase where
  | loading
  | requesting
  | rendering
  | writing
  | ending
  deriving DecidableEq, Repr

/-- The row write in flight (R129): the grid row, the address of its first byte, and the bytes. -/
structure RowWrite where
  row : Nat
  address : Word
  bytes : List Byte
  deriving DecidableEq, Repr

/-- The image job (Table 7-1). -/
structure ImageJob where
  ringIndex : Half
  tag : Half
  width : Nat
  height : Nat
  destination : Word
  stride : Nat
  phase : ImagePhase
  nextBand : Nat
  buffer : Option BufferId
  write : Option RowWrite
  signature : Half
  report : JobReport
  deriving DecidableEq, Repr

/-! ### The whole -/

/-- The state of the LB540. `freeCount` and `pending` are the model's own: the counter that the free
values of Config are applied to (log 10), and the commands that wait. -/
@[ext]
structure State where
  resetHeld : Bool
  setup : Word
  cause : BitVec 6
  ien : BitVec 6
  engine : EngineControl
  rings : PerRing RingRecord
  completion : CompletionUnit
  renderStates : PerRing RenderState
  loads : PerRing (Option StateLoad)
  walkers : PerRing WalkerContext
  tables : PerRing (List TableEntry)
  bands : Bands
  printQueue : List BufferId
  render : Option RenderRecord
  labels : List LabelEntry
  head : HeadPort
  image : Option ImageJob
  pins : Pins
  freeCount : Nat
  pending : List Instr
  deriving DecidableEq, Repr

/-- The reasons a step can stop with a fault. There is none: every fault the spec describes is an
effect on State (a job's status, a ring state, the HALTED engine), and no rule leaves the part
without a next state. -/
inductive Fault where
  deriving DecidableEq, Repr

/-- The reasons a term is given no meaning. -/
inductive Refusal where
  /-- Raised by an arm of `exec` whose command has no meaning yet. Safe: no next state is claimed. -/
  | notModelled (mnemonic : String)
  /-- Raised by CMD_UNDEFINED_CODE and REGISTER_WRITE_IGNORED when the operands spell a command of
  another row (`Instr.wellFormed` refuses them). Safe: no next state is claimed. -/
  | illFormed
  deriving DecidableEq, Repr

/-! ### Reset values -/

/-- The fault index when no object is concerned (R33). -/
def noObject : Half := 0xFFFF#16

/-- The accumulator of a signature before any byte is fed (R115, R132). -/
def signatureInit : Half := 0xFFFF#16

/-- All four warnings clear. -/
def Warnings.clear : Warnings := ⟨false, false, false, false⟩

/-- The report of a job at its creation (Tables 6-1 and 7-1). -/
def JobReport.initial : JobReport := ⟨Warnings.clear, none, noObject, 0⟩

/-- The reset values of Table 5-1 (R82). -/
def RenderState.initial : RenderState where
  originX := 0
  originY := 0
  clipLeft := 0
  clipTop := 0
  clipRight := 65535
  clipBottom := 65535
  pattern := BitVec.allOnes 64
  defaultOp := .set
  glyphTable := 0#32
  glyphCount := 0
  glyphBase := 0#32
  extraSpacing := 0
  strokeWidth := 1

/-- A ring record after the resets of R140. -/
def RingRecord.initial : RingRecord := ⟨0#16, 0#16, .active, .none⟩

/-- The completion unit after the resets of R167. -/
def CompletionUnit.initial : CompletionUnit where
  cpost := 0#16
  cread := 0#16
  reserved := 0
  retire := ⟨[], []⟩
  reservationTurn := .print
  postingTurn := .print
  write := none
  timer := none

/-- A walker context emptied (R31, R35): no job, no pending object. The spec gives the list address,
the object count and the next list index no value then, as nothing uses them; all 0 is a DESIGN
CHOICE (log 32). -/
def WalkerContext.empty : WalkerContext := ⟨none, 0#32, 0, 0, none⟩

/-- A row of paper. -/
def Row.paper : Row := 0#dotsPerRow

/-- The rows of a cleared buffer (R63). -/
def paperRows : List Row := List.replicate rowsPerBuffer Row.paper

/-- A band record after the resets of R80, with the rows given. -/
def BandBuffer.freed (rows : List Row) : BandBuffer := ⟨.free, none, 0, 0, 0, rows⟩

/-- The head port after the resets of R103. -/
def HeadPort.initial : HeadPort := ⟨none, none, Row.paper, Row.paper⟩

/-- Every output pin low and nothing shifted (R103, R182, R196). -/
def Pins.idle : Pins := ⟨false, false, false, false, false, false, false, []⟩

/-- Engine control in the RESET_N column of Table 10-1. The setup address has no reset value there:
DESIGN CHOICE 0 (log 11). -/
def EngineControl.initial : EngineControl where
  state := .stopped
  pendingStop := false
  params := none
  setupAddress := 0#32
  setupFetch := .idle
  faultCode := 0
  haltReason := .none
  discarded := 0

/-- The machine right after reset: RESET_N has been asserted and deasserted (R196). The band buffers'
contents are arbitrary then (R80); all paper is a DESIGN CHOICE (log 9). -/
def State.reset : State where
  resetHeld := false
  setup := 0#32
  cause := 0#6
  ien := 0#6
  engine := EngineControl.initial
  rings := ⟨RingRecord.initial, RingRecord.initial⟩
  completion := CompletionUnit.initial
  renderStates := ⟨RenderState.initial, RenderState.initial⟩
  loads := ⟨none, none⟩
  walkers := ⟨WalkerContext.empty, WalkerContext.empty⟩
  tables := ⟨[], []⟩
  bands :=
    ⟨.freed paperRows, .freed paperRows, .freed paperRows, .freed paperRows⟩
  printQueue := []
  render := none
  labels := []
  head := HeadPort.initial
  image := none
  pins := Pins.idle
  freeCount := 0
  pending := []

/-! ### Named updates of the blocks -/

def State.setEngine (s : State) (e : EngineControl) : State := { s with engine := e }
def State.setRing (s : State) (r : Ring) (x : RingRecord) : State :=
  { s with rings := s.rings.set r x }
def State.setCompletion (s : State) (c : CompletionUnit) : State := { s with completion := c }
def State.setRenderState (s : State) (r : Ring) (x : RenderState) : State :=
  { s with renderStates := s.renderStates.set r x }
def State.setLoad (s : State) (r : Ring) (x : Option StateLoad) : State :=
  { s with loads := s.loads.set r x }
def State.setWalker (s : State) (r : Ring) (x : WalkerContext) : State :=
  { s with walkers := s.walkers.set r x }
def State.setTable (s : State) (r : Ring) (x : List TableEntry) : State :=
  { s with tables := s.tables.set r x }
def State.setBand (s : State) (i : BufferId) (x : BandBuffer) : State :=
  { s with bands := s.bands.set i x }
def State.setBands (s : State) (b : Bands) : State := { s with bands := b }
def State.setPrintQueue (s : State) (q : List BufferId) : State := { s with printQueue := q }
def State.setRender (s : State) (r : Option RenderRecord) : State := { s with render := r }
def State.setLabels (s : State) (l : List LabelEntry) : State := { s with labels := l }
def State.setHead (s : State) (h : HeadPort) : State := { s with head := h }
def State.setImage (s : State) (j : Option ImageJob) : State := { s with image := j }
def State.setPins (s : State) (p : Pins) : State := { s with pins := p }
def State.setCauseBits (s : State) (c : BitVec 6) : State := { s with cause := c }
def State.setFreeCount (s : State) (n : Nat) : State := { s with freeCount := n }
def State.setPending (s : State) (q : List Instr) : State := { s with pending := q }

end Sys2Proof.Machine
end

