-- ==== Sys2Proof/Machine/Operands.lean ====
section
/-! DEFINITION. Every structure the part reads or writes, field by field: the byte layouts of
11_formats_reference.md and the checks that own the fields. -/

namespace Sys2Proof.Machine

/-! ### Reading fields (R203)

A structure is one number, the byte at offset k being bits 8k+7..8k. -/

/-- The u8 at an offset. -/
def byteAt {n : Nat} (d : BitVec n) (offset : Nat) : Byte := d.extractLsb' (8 * offset) 8

/-- The u16 at an offset. -/
def halfAt {n : Nat} (d : BitVec n) (offset : Nat) : Half := d.extractLsb' (8 * offset) 16

/-- The u32 at an offset. -/
def wordAt {n : Nat} (d : BitVec n) (offset : Nat) : Word := d.extractLsb' (8 * offset) 32

/-- Whether an address is a multiple of `n` (00_scope.md, Memory). -/
def aligned (n : Nat) (a : Word) : Bool := decide (a.toNat % n = 0)

/-- The low 16 bits of a register value: the index fields of Table 11-13. -/
def lowHalf (v : Word) : Half := v.extractLsb' 0 16

/-- The low six bits of a register value: the cause and enable bits of Table 11-13. -/
def lowSix (v : Word) : BitVec 6 := v.extractLsb' 0 6

/-! ### Setup block (Table 11-3, R189) -/

/-- A ring size is a power of two in 4..256 (R139, R166, R189). -/
def ringSizeValid (n : Nat) : Bool := decide (n ∈ [4, 8, 16, 32, 64, 128, 256])

/-- The fields of a setup block. -/
def readSetupBlock (d : BitVec 512) : SetupParams where
  headWidth := (halfAt d 0).toNat
  bandHeight := (byteAt d 2).toNat
  stallThreshold := (byteAt d 3).toNat
  burnMain := (byteAt d 4).toNat
  burnBoost := (byteAt d 5).toNat
  coalesceCount := (byteAt d 6).toNat
  coalesceTime := (halfAt d 8).toNat
  ringBase := ⟨wordAt d 16, wordAt d 24⟩
  ringSize := ⟨(halfAt d 20).toNat, (halfAt d 28).toNat⟩
  completionBase := wordAt d 32
  completionSize := (halfAt d 36).toNat

/-- Head width: 64..2048 and a multiple of 8 (R189, code 2). -/
def SetupParams.widthValid (p : SetupParams) : Bool :=
  decide (64 ≤ p.headWidth ∧ p.headWidth ≤ 2048 ∧ p.headWidth % 8 = 0)

/-- Band height: 8, 16, 32 or 64 (R189, code 3). -/
def SetupParams.heightValid (p : SetupParams) : Bool := decide (p.bandHeight ∈ [8, 16, 32, 64])

/-- The three ring sizes (R189, code 4). -/
def SetupParams.sizesValid (p : SetupParams) : Bool :=
  ringSizeValid p.ringSize.print && ringSizeValid p.ringSize.image &&
    ringSizeValid p.completionSize

/-- The three ring bases (R189, code 5). -/
def SetupParams.basesValid (p : SetupParams) : Bool :=
  aligned 64 p.ringBase.print && aligned 64 p.ringBase.image && aligned 64 p.completionBase

/-- Coalescing count: 1..16 (R189, code 7). -/
def SetupParams.countValid (p : SetupParams) : Bool :=
  decide (1 ≤ p.coalesceCount ∧ p.coalesceCount ≤ 16)

/-- The setup fault code of a block that was read without a bus error: the lowest-numbered code
whose condition holds (R189). -/
def SetupParams.faultCode (p : SetupParams) : Nat :=
  if !p.widthValid then 2
  else if !p.heightValid then 3
  else if !p.sizesValid then 4
  else if !p.basesValid then 5
  else if p.burnMain = 0 then 6
  else if !p.countValid then 7
  else 0

/-- The setup fault code of a setup fetch (R189). -/
def setupFaultCode : BusRead (BitVec 512) → Nat
  | .busError => 1
  | .data d => (readSetupBlock d).faultCode

/-! ### Descriptors (Tables 11-4 to 11-6, R155 to R159) -/

/-- The fields of a LABEL descriptor (R156). -/
structure LabelFields where
  pad : Bool
  align : Bool
  stateAddress : Word
  listAddress : Word
  objectCount : Nat
  length : Nat
  markLimit : Nat
  deriving DecidableEq, Repr

/-- The fields of an IMAGE descriptor (R157). -/
structure ImageFields where
  stateAddress : Word
  listAddress : Word
  objectCount : Nat
  width : Nat
  height : Nat
  stride : Nat
  destination : Word
  deriving DecidableEq, Repr

/-- A descriptor by its kind (R155). -/
inductive Descriptor where
  | label (f : LabelFields)
  | image (f : ImageFields)
  | state (address : Word)
  | marker
  deriving DecidableEq, Repr

/-- What the checks of a descriptor find (R150, R155, R159). -/
inductive DescriptorCheck where
  | badKind
  | badDescriptor
  | valid (d : Descriptor)
  deriving DecidableEq, Repr

/-- The kind byte of a descriptor, as read. -/
def descriptorKind (d : BitVec 256) : Byte := byteAt d 0

/-- The tag of a descriptor. -/
def descriptorTag (d : BitVec 256) : Half := halfAt d 2

/-- The fields of a LABEL (Table 11-5). -/
def readLabelFields (d : BitVec 256) : LabelFields where
  pad := (byteAt d 1).getLsbD 0
  align := (byteAt d 1).getLsbD 1
  stateAddress := wordAt d 4
  listAddress := wordAt d 8
  objectCount := (halfAt d 12).toNat
  length := (halfAt d 14).toNat
  markLimit := (halfAt d 16).toNat

/-- The checks of Table 8-8 (R156). -/
def LabelFields.valid (f : LabelFields) : Bool :=
  aligned 32 f.listAddress && decide (1 ≤ f.length) && (!f.align || decide (1 ≤ f.markLimit))

/-- The fields of an IMAGE (Table 11-5). -/
def readImageFields (d : BitVec 256) : ImageFields where
  stateAddress := wordAt d 4
  listAddress := wordAt d 8
  objectCount := (halfAt d 12).toNat
  width := (halfAt d 14).toNat
  height := (halfAt d 16).toNat
  stride := (halfAt d 18).toNat
  destination := wordAt d 20

/-- The checks of Table 8-9 (R157). -/
def ImageFields.valid (f : ImageFields) : Bool :=
  aligned 32 f.listAddress && decide (1 ≤ f.width ∧ f.width ≤ 2048) && decide (1 ≤ f.height) &&
    decide (ceilBytes f.width ≤ f.stride)

/-- A descriptor that passes its field checks, or BAD_DESCRIPTOR (R159). -/
def checked (ok : Bool) (d : Descriptor) : DescriptorCheck :=
  if ok then .valid d else .badDescriptor

/-- The checks made on a descriptor of a ring that is ACTIVE (R150, R155 to R159). -/
def checkDescriptor (ring : Ring) (d : BitVec 256) : DescriptorCheck :=
  let kind := (descriptorKind d).toNat
  if kind = 1 then
    match ring with
    | .print => checked (readLabelFields d).valid (.label (readLabelFields d))
    | .image => .badKind
  else if kind = 2 then
    match ring with
    | .print => .badKind
    | .image => checked (readImageFields d).valid (.image (readImageFields d))
  else if kind = 3 then checked (decide (wordAt d 4 ≠ 0#32)) (.state (wordAt d 4))
  else if kind = 4 then .valid .marker
  else .badKind

/-! ### State records (Table 11-8, R83 to R86) -/

/-- Whether a group is present (R83). -/
def groupPresent (d : BitVec 384) (group : Nat) : Bool := (byteAt d 0).getLsbD group

/-- The concrete op of a code 0..3 (R8). -/
def opOfCode (code : Nat) : Option CombineOp :=
  match code with
  | 0 => some .set
  | 1 => some .clear
  | 2 => some .invert
  | 3 => some .replace
  | _ => none

/-- The checks of Table 5-2 on the present groups (R85). -/
def stateRecordValid (d : BitVec 384) : Bool :=
  (!groupPresent d 3 || (opOfCode (byteAt d 24).toNat).isSome) &&
  (!groupPresent d 4 ||
    (decide ((halfAt d 28).toNat ≤ 4096) && aligned 8 (wordAt d 32))) &&
  (!groupPresent d 6 ||
    decide (-16 ≤ (byteAt d 25).toInt ∧ (byteAt d 25).toInt ≤ 15)) &&
  (!groupPresent d 7 ||
    decide (1 ≤ (byteAt d 26).toNat ∧ (byteAt d 26).toNat ≤ 8))

/-- The render state with the present groups of a record replaced (R86). -/
def applyStateRecord (d : BitVec 384) (s : RenderState) : RenderState where
  originX := if groupPresent d 0 then (halfAt d 4).toInt else s.originX
  originY := if groupPresent d 0 then (halfAt d 6).toInt else s.originY
  clipLeft := if groupPresent d 1 then (halfAt d 8).toNat else s.clipLeft
  clipTop := if groupPresent d 1 then (halfAt d 10).toNat else s.clipTop
  clipRight := if groupPresent d 1 then (halfAt d 12).toNat else s.clipRight
  clipBottom := if groupPresent d 1 then (halfAt d 14).toNat else s.clipBottom
  pattern := if groupPresent d 2 then d.extractLsb' 128 64 else s.pattern
  defaultOp :=
    if groupPresent d 3 then (opOfCode (byteAt d 24).toNat).getD s.defaultOp else s.defaultOp
  glyphTable := if groupPresent d 4 then wordAt d 32 else s.glyphTable
  glyphCount := if groupPresent d 4 then (halfAt d 28).toNat else s.glyphCount
  glyphBase := if groupPresent d 5 then wordAt d 36 else s.glyphBase
  extraSpacing := if groupPresent d 6 then (byteAt d 25).toInt else s.extraSpacing
  strokeWidth := if groupPresent d 7 then (byteAt d 26).toNat else s.strokeWidth

/-! ### Object records (Tables 11-9 and 11-10, R16 to R19) -/

/-- The op field of an object record (R17): none when the field is invalid, `some none` for
DEFAULT. -/
def readObjectOp (code : Nat) : Option (Option CombineOp) :=
  if code = 7 then some none else (opOfCode code).map some

/-- The body of a record of a kind, when its fields pass the checks of Table 2-2 (R16, R18), a
STROKE's width 0 replaced by the default stroke width (R19). -/
def readObjectBody (kind : Nat) (defaultWidth : Nat) (d : BitVec 256) : Option ObjectBody :=
  match kind with
  | 1 =>
    let width := (halfAt d 8).toNat
    let height := (halfAt d 10).toNat
    if 1 ≤ width ∧ width ≤ 4096 ∧ 1 ≤ height then some (.rule width height) else none
  | 2 =>
    let w := (byteAt d 12).toNat
    if w ≤ 8 then
      some (.stroke (halfAt d 8).toInt (halfAt d 10).toInt (if w = 0 then defaultWidth else w))
    else none
  | 3 =>
    let width := (halfAt d 8).toNat
    let height := (halfAt d 10).toNat
    let stride := (halfAt d 12).toNat
    let sx := (byteAt d 14).toNat
    let sy := (byteAt d 15).toNat
    if 1 ≤ width ∧ width ≤ 2048 ∧ 1 ≤ height ∧ height ≤ 4096 ∧
        1 ≤ stride ∧ stride ≤ 256 ∧ ceilBytes width ≤ stride ∧
        1 ≤ sx ∧ sx ≤ 4 ∧ 1 ≤ sy ∧ sy ≤ 4 then
      some (.bitmap width height stride sx sy (wordAt d 16) (wordAt d 20).toNat)
    else none
  | 4 =>
    let count := (halfAt d 12).toNat
    let ascent := (byteAt d 14).toNat
    let descent := (byteAt d 15).toNat
    if aligned 2 (wordAt d 8) ∧ 1 ≤ count ∧ count ≤ 256 ∧ 1 ≤ ascent + descent then
      some (.text (wordAt d 8) count ascent descent)
    else none
  | 5 =>
    let count := (halfAt d 12).toNat
    let moduleWidth := (byteAt d 14).toNat
    let height := (halfAt d 16).toNat
    if 1 ≤ count ∧ count ≤ 512 ∧ 1 ≤ moduleWidth ∧ moduleWidth ≤ 16 ∧ 1 ≤ height then
      some (.bars (wordAt d 8) count moduleWidth height)
    else none
  | _ => none

/-- A valid object record's fields, or none when the record is an OBJECT_FAULT (R16 to R18). -/
def readObject (rs : RenderState) (d : BitVec 256) : Option ObjectFields :=
  match readObjectBody (byteAt d 0).toNat rs.strokeWidth d, readObjectOp (byteAt d 1).toNat with
  | some body, some op =>
    some {
      op := op
      pattern := (byteAt d 2).getLsbD 0
      x := (halfAt d 4).toInt
      y := (halfAt d 6).toInt
      body := body }
  | _, _ => none

/-- The top and bottom grid rows of an object (Table 2-3). -/
def extent (rs : RenderState) (o : ObjectFields) : Int × Int :=
  let y := o.y + rs.originY
  match o.body with
  | .rule _ h => (y, y + h - 1)
  | .stroke _ y1 w => (min o.y y1 + rs.originY, max o.y y1 + rs.originY + w - 1)
  | .bitmap _ h _ _ sy _ _ => (y, y + h * sy - 1)
  | .text _ _ ascent descent => (y - ascent, y + descent - 1)
  | .bars _ _ _ h => (y, y + h - 1)

/-! ### Object data (R46, R51, R52, R57) -/

/-- The byte at a place of a read's data. -/
def dataByte (bytes : List Byte) (k : Nat) : Byte := bytes.getD k 0#8

/-- Dot `i` of a packed row of bytes (R4). -/
def packedDot (bytes : List Byte) (i : Nat) : Bool := (dataByte bytes (i / 8)).getMsbD (i % 8)

/-- The u16 at a place of a read's data (R203). -/
def dataHalf (bytes : List Byte) (k : Nat) : Half := dataByte bytes (k + 1) ++ dataByte bytes k

/-- The u32 at a place of a read's data (R203). -/
def dataWord (bytes : List Byte) (k : Nat) : Word := dataHalf bytes (k + 2) ++ dataHalf bytes k

/-- The character codes of a string (R51). -/
def readString (count : Nat) (bytes : List Byte) : List Half :=
  (List.range count).map fun i => dataHalf bytes (2 * i)

/-- A placed glyph from its 8-byte record (Table 11-11) and the pen. -/
def readGlyph (pen : Int) (bytes : List Byte) : GlyphItem where
  pen := pen
  width := (dataByte bytes 0).toNat
  height := (dataByte bytes 1).toNat
  ascent := (dataByte bytes 2).toNat
  offset := dataWord bytes 4

/-- The advance of a glyph record (Table 3-7). -/
def glyphAdvance (bytes : List Byte) : Nat := (dataByte bytes 3).toNat

/-! ### Completion record (Table 11-7, R176, R177) -/

/-- Status codes (Table 9-9). -/
def Status.code : Status → Byte
  | .ok => 0#8
  | .aborted => 1#8
  | .flushed => 2#8
  | .badKind => 3#8
  | .badDescriptor => 4#8
  | .stateFault => 5#8
  | .objectFault => 6#8
  | .fetchError => 7#8
  | .writeError => 8#8
  | .tableFull => 9#8
  | .underrun => 10#8
  | .noMark => 11#8

/-- The ring field: PRINT 0, IMAGE 1. -/
def ringCode : Ring → Byte
  | .print => 0#8
  | .image => 1#8

/-- The warnings byte: bits 0 to 3, bits 4 to 7 written 0. -/
def Warnings.code (w : Warnings) : Byte :=
  BitVec.ofBool w.padded ++ BitVec.ofBool w.glyphMissing ++ BitVec.ofBool w.shortSource ++
    BitVec.ofBool w.lateObject |>.setWidth 8

/-- The 16 bytes of a completion record, byte k at bits 8k+7..8k. -/
def completionRecord (ring : Ring) (e : RetireEntry) (r : Results) : BitVec 128 :=
  (r.faultIndex ++ BitVec.ofNat 16 r.admitted ++ r.signature ++ BitVec.ofNat 16 r.rowsPadded ++
    r.warnings.code ++ ringCode ring ++ r.status.code ++ e.kind ++ e.ringIndex ++ e.tag :
    BitVec (16 + 16 + 16 + 16 + 8 + 8 + 8 + 8 + 16 + 16))

/-- The results of a descriptor finished at the take (R152), of a STATE (R91), and of a MARKER. -/
def plainResults (status : Status) : Results :=
  ⟨status, Warnings.clear, 0, 0#16, 0, noObject⟩

end Sys2Proof.Machine
end

