-- ==== Sys2Proof/Machine/Raster.lean ====
section
/-! DEFINITION. What a band render does to dots: packed rows, the combine ops, the fill pattern, the
clip, the covered set of each object kind, and the painting of table entries (chapters 1 and 3).
Nothing here reads the machine's state: the inputs are the render state, the grid, the band's rows
and the data read. -/

namespace Sys2Proof.Machine

/-! ### Packed rows (R4, R13) -/

/-- The number whose `n` bits, most significant first, are `p 0` to `p (n-1)`. -/
def packBits : Nat → (Nat → Bool) → Nat
  | 0, _ => 0
  | n + 1, p => 2 * packBits n p + (p n).toNat

/-- The row whose dots 0 to n−1 are `p`, paper beyond (R4: dot 0 is the most significant). -/
def rowOf (n : Nat) (p : Nat → Bool) : Row :=
  BitVec.ofNat dotsPerRow (packBits n p) <<< (dotsPerRow - n)

/-- Dot `x` of a row: true is ink (R4). -/
def rowDot (r : Row) (x : Nat) : Bool := r.getMsbD x

/-- Byte `k` of a row: dots 8k to 8k+7, dot 8k its bit 7 (R4). -/
def rowByte (r : Row) (k : Nat) : Byte := r.extractLsb' (dotsPerRow - 8 * (k + 1)) 8

/-- The first `n` bytes of a row, in order. -/
def rowBytes (r : Row) (n : Nat) : List Byte := (List.range n).map (rowByte r)

/-- The first `n` dots of a row, paper beyond (R130: bits beyond the row's dots are written 0). -/
def firstDots (n : Nat) (r : Row) : Row := r &&& (BitVec.allOnes dotsPerRow <<< (dotsPerRow - n))

/-- The dots of a row of `n` dots in the order they are shifted on SHIFT_DATA, dot 0 first (R106). -/
def shiftSequence (n : Nat) (r : Row) : List Bool := (List.range n).map (rowDot r)

/-! ### Combine ops (R8) -/

/-- What an op does to a covered dot of value `old` under a mark (Table 1-3). -/
def opDot (op : CombineOp) (mark old : Bool) : Bool :=
  match op, mark with
  | .set, true => true
  | .clear, true => false
  | .invert, true => !old
  | .replace, m => m
  | _, false => old

/-- An op applied to a row, given the covered dots and those of them marked ink (R8). -/
def combineRow (op : CombineOp) (covered ink old : Row) : Row :=
  match op with
  | .set => old ||| ink
  | .clear => old &&& ~~~ink
  | .invert => old ^^^ ink
  | .replace => (old &&& ~~~covered) ||| ink

/-! ### Clip, pattern and the band (R5, R7, R10, R11) -/

/-- What the painting of a band reads besides object data: the render state, the job's grid, and
the band's first and last rows. -/
structure PaintEnv where
  rs : RenderState
  columns : Nat
  gridRows : Nat
  first : Nat
  last : Nat
  deriving DecidableEq, Repr

/-- Whether a position is in the effective clip (R5). -/
def PaintEnv.inClip (env : PaintEnv) (x y : Int) : Bool :=
  decide (env.rs.clipLeft ≤ x ∧ x < env.rs.clipRight ∧ env.rs.clipTop ≤ y ∧ y < env.rs.clipBottom ∧
    0 ≤ x ∧ x < env.columns ∧ 0 ≤ y ∧ y < env.gridRows)

/-- The fill pattern at a grid dot: bit (x mod 8) of pattern row (y mod 8) (R10). -/
def RenderState.patternAt (rs : RenderState) (x y : Int) : Bool :=
  rs.pattern.getLsbD (8 * (y % 8).toNat + (x % 8).toNat)

/-- The mark of a filled dot: the pattern's under PATTERN, else ink (R11). -/
def RenderState.fillMark (rs : RenderState) (pattern : Bool) (x y : Int) : Bool :=
  if pattern then rs.patternAt x y else true

/-- A covered set with its marks: none where a position is not covered, `some true` where it is
marked ink. -/
abbrev Marks := Int → Int → Option Bool

/-- One band row with an object combined into it: dots in the covered set and the effective clip
take the op, the others keep their value (R7, R8). -/
def PaintEnv.paintRow (env : PaintEnv) (op : CombineOp) (marks : Marks) (y : Int) (old : Row) : Row :=
  combineRow op
    (rowOf env.columns fun x => env.inClip x y && (marks x y).isSome)
    (rowOf env.columns fun x => env.inClip x y && (marks x y == some true))
    old

/-- A band with an object combined into it: buffer row j holds grid row first + j, and rows beyond
the band keep their contents (R7, R13). -/
def PaintEnv.paint (env : PaintEnv) (op : CombineOp) (marks : Marks) (rows : List Row) : List Row :=
  rows.mapIdx fun j old =>
    if env.first + j ≤ env.last then env.paintRow op marks ((env.first + j : Nat) : Int) old
    else old

/-! ### Covered sets -/

/-- The grid column of an object's header point (R3). -/
def PaintEnv.originColumn (env : PaintEnv) (o : ObjectFields) : Int := o.x + env.rs.originX

/-- The grid row of an object's header point (R3). -/
def PaintEnv.originRow (env : PaintEnv) (o : ObjectFields) : Int := o.y + env.rs.originY

/-- The covered set of a RULE (R40). -/
def PaintEnv.ruleMarks (env : PaintEnv) (o : ObjectFields) (width height : Nat) : Marks :=
  fun x y =>
    let X := env.originColumn o
    let Y := env.originRow o
    if X ≤ x ∧ x < X + width ∧ Y ≤ y ∧ y < Y + height then some (env.rs.fillMark o.pattern x y)
    else none

/-- The stepped points of a STROKE, by its end points on the grid (R42). -/
structure StrokeLine where
  x0 : Int
  y0 : Int
  x1 : Int
  y1 : Int
  deriving DecidableEq, Repr

/-- |X1 − X0| (R42). -/
def StrokeLine.dx (t : StrokeLine) : Nat := (t.x1 - t.x0).natAbs

/-- |Y1 − Y0| (R42). -/
def StrokeLine.dy (t : StrokeLine) : Nat := (t.y1 - t.y0).natAbs

/-- The major length M (R42). -/
def StrokeLine.major (t : StrokeLine) : Nat := max t.dx t.dy

/-- The minor length m (R42). -/
def StrokeLine.minor (t : StrokeLine) : Nat := min t.dx t.dy

/-- n_k: the floor of (2km + M − 1)/(2M), the integer nearest k·m/M with halves toward the start
(R43). -/
def StrokeLine.minorStep (t : StrokeLine) (k : Nat) : Nat :=
  (2 * k * t.minor + t.major - 1) / (2 * t.major)

/-- Stepped point k (R43); the major axis is x when dx ≥ dy. -/
def StrokeLine.point (t : StrokeLine) (k : Nat) : Int × Int :=
  let sx := (t.x1 - t.x0).sign
  let sy := (t.y1 - t.y0).sign
  if t.dy ≤ t.dx then (t.x0 + k * sx, t.y0 + t.minorStep k * sy)
  else (t.x0 + t.minorStep k * sx, t.y0 + k * sy)

/-- Whether some pen square of the stroke covers a position (R44). -/
def StrokeLine.covers (t : StrokeLine) (width : Nat) (x y : Int) : Bool :=
  (List.range (t.major + 1)).any fun k =>
    decide ((t.point k).1 ≤ x ∧ x < (t.point k).1 + width ∧
      (t.point k).2 ≤ y ∧ y < (t.point k).2 + width)

/-- The line of a STROKE on the grid (R42). -/
def PaintEnv.strokeLine (env : PaintEnv) (o : ObjectFields) (x1 y1 : Int) : StrokeLine :=
  ⟨env.originColumn o, env.originRow o, x1 + env.rs.originX, y1 + env.rs.originY⟩

/-- The covered set of a STROKE: the union of its pen squares (R44). -/
def PaintEnv.strokeMarks (env : PaintEnv) (o : ObjectFields) (x1 y1 : Int) (width : Nat) : Marks :=
  fun x y =>
    if (env.strokeLine o x1 y1).covers width x y then some (env.rs.fillMark o.pattern x y) else none

/-- The fields of a BITMAP that its painting reads (R46). -/
structure BitmapFields where
  width : Nat
  height : Nat
  stride : Nat
  scaleX : Nat
  scaleY : Nat
  address : Word
  length : Nat
  deriving DecidableEq, Repr

/-- The part of a BITMAP's covered set that source row `r` gives (R47). A short row has no bytes,
and its dots are paper (R48). -/
def PaintEnv.bitmapMarks (env : PaintEnv) (o : ObjectFields) (b : BitmapFields) (r : Nat)
    (bytes : List Byte) : Marks :=
  fun x y =>
    let X := env.originColumn o
    let Y := env.originRow o + b.scaleY * r
    if X ≤ x ∧ x < X + b.scaleX * b.width ∧ Y ≤ y ∧ y < Y + b.scaleY then
      some (packedDot bytes ((x - X).toNat / b.scaleX))
    else none

/-- Whether a gathered glyph row covers a position (R54). -/
def GlyphRow.covers (g : GlyphRow) (x y : Int) : Bool :=
  decide (g.gridRow = y ∧ g.pen ≤ x ∧ x < g.pen + g.width)

/-- The covered set of a TEXT in a band from the glyph rows read for it: ink where any glyph's dot
is ink (R54). -/
def textMarks (gathered : List (GlyphRow × List Byte)) : Marks := fun x y =>
  if gathered.any fun g => g.1.covers x y then
    some (gathered.any fun g => g.1.covers x y && packedDot g.2 (x - g.1.pen).toNat)
  else none

/-- The runs laid out from a column on, bars and spaces in turn (R58). -/
def layoutBars (moduleWidth : Nat) : Int → Bool → List Byte → List Bar
  | _, _, [] => []
  | x, ink, run :: rest =>
    ⟨x, run.toNat * moduleWidth, ink⟩ ::
      layoutBars moduleWidth (x + ((run.toNat * moduleWidth : Nat) : Int)) (!ink) rest

/-- The covered set of a BARS (R58). -/
def PaintEnv.barsMarks (env : PaintEnv) (o : ObjectFields) (height : Nat) (bars : List Bar) :
    Marks :=
  fun x y =>
    let Y := env.originRow o
    if Y ≤ y ∧ y < Y + height then
      (bars.find? fun b => decide (b.start ≤ x ∧ x < b.start + b.width)).map Bar.ink
    else none

/-! ### Painting an entry (R36, R37)

An entry is painted whole, stopping where it must wait for a read of its data. -/

/-- What painting changes besides the table: the band's rows and two of the job's warnings. -/
structure Canvas where
  rows : List Row
  shortSource : Bool
  glyphMissing : Bool
  deriving DecidableEq, Repr

/-- The canvas with an object combined into its rows. -/
def Canvas.paint (c : Canvas) (env : PaintEnv) (op : CombineOp) (marks : Marks) : Canvas :=
  { c with rows := env.paint op marks c.rows }

/-- Where the painting of one entry stops: it is done, or waits for a read, or has met a bad bar run
(R57). -/
inductive EntryResult where
  | done (entry : TableEntry) (canvas : Canvas)
  | waits (entry : TableEntry) (canvas : Canvas) (address : Word) (length : Nat) (work : PaintWork)
  | objectFault (entry : TableEntry) (canvas : Canvas)
  deriving DecidableEq, Repr

/-- The source rows of a BITMAP that a band needs: those one of whose grid rows lies in it (R49). -/
def PaintEnv.neededRows (env : PaintEnv) (o : ObjectFields) (b : BitmapFields) : List Nat :=
  let Y := env.originRow o
  let low := (((env.first : Int) - Y) / b.scaleY).toNat
  let high := min ((b.height : Int) - 1) (((env.last : Int) - Y) / b.scaleY)
  List.range' low (high + 1 - low).toNat

/-- Whether a source row is short: its bytes would reach the source length or beyond (R46). -/
def BitmapFields.short (b : BitmapFields) (r : Nat) : Bool :=
  decide (b.length < r * b.stride + ceilBytes b.width)

/-- The address of a source row (R46). -/
def BitmapFields.rowAddress (b : BitmapFields) (r : Nat) : Word :=
  b.address + BitVec.ofNat 32 (r * b.stride)

/-- The needed rows of a BITMAP taken in order (R49): a row already read is painted from the kept
bytes, a short row as paper with SHORT_SOURCE (R48), and any other row is read. -/
def PaintEnv.bitmapRows (env : PaintEnv) (e : TableEntry) (b : BitmapFields) (next : Nat)
    (kept : List Byte) : List Nat → Canvas → EntryResult
  | [], c => .done { e with progress := .bitmap next kept } c
  | r :: rest, c =>
    if r < next then
      env.bitmapRows e b next kept rest (c.paint env e.op (env.bitmapMarks e.fields b r kept))
    else if b.short r then
      env.bitmapRows e b next kept rest
        { c.paint env e.op (env.bitmapMarks e.fields b r []) with shortSource := true }
    else
      .waits { e with progress := .bitmap next kept } c (b.rowAddress r) (ceilBytes b.width)
        (.bitmapRow r rest)

/-- The glyph rows a band needs, item by item in increasing row: those in the band's rows and in the
line box (R54, R55). A glyph of width 0 has no dots (R53). -/
def PaintEnv.glyphRows (env : PaintEnv) (o : ObjectFields) (ascent descent : Nat)
    (placed : List GlyphItem) : List GlyphRow :=
  let Y := env.originRow o
  placed.flatMap fun g =>
    (List.range g.height).filterMap fun (r : Nat) =>
      let gridRow : Int := Y - g.ascent + (r : Int)
      if 0 < g.width ∧ env.first ≤ gridRow ∧ gridRow ≤ env.last ∧
          Y - ascent ≤ gridRow ∧ gridRow ≤ Y + descent - 1 then
        some ⟨g.pen, g.width, gridRow,
          env.rs.glyphBase + g.offset + BitVec.ofNat 32 (r * ceilBytes g.width)⟩
      else none

/-- The glyph rows of a band read one after another, then painted together (R54, R55). -/
def PaintEnv.textRows (env : PaintEnv) (e : TableEntry) (rows : List GlyphRow)
    (gathered : List (GlyphRow × List Byte)) (c : Canvas) : EntryResult :=
  match rows with
  | [] => .done e (c.paint env e.op (textMarks gathered))
  | g :: rest => .waits e c g.address (ceilBytes g.width) (.textRow g rest gathered)

/-- The codes of a TEXT examined in string order (R51, R53): a missing code places nothing and sets
GLYPH_MISSING, a present code's glyph record is read. -/
def PaintEnv.placeCodes (env : PaintEnv) (e : TableEntry) (ascent descent : Nat) :
    List Half → List GlyphItem → Int → Canvas → EntryResult
  | [], placed, _, c =>
    env.textRows { e with progress := .text (some placed) }
      (env.glyphRows e.fields ascent descent placed) [] c
  | code :: rest, placed, pen, c =>
    if code.toNat < env.rs.glyphCount then
      .waits e c (env.rs.glyphTable + BitVec.ofNat 32 (8 * code.toNat)) 8
        (.textGlyph code rest placed pen)
    else env.placeCodes e ascent descent rest placed pen { c with glyphMissing := true }

/-- A bar run is 1..15 (R57). -/
def runsValid (runs : List Byte) : Bool := runs.all fun b => decide (1 ≤ b.toNat ∧ b.toNat ≤ 15)

/-- The painting of an entry in a band, up to the first read it needs (R36, R60). -/
def PaintEnv.beginEntry (env : PaintEnv) (e : TableEntry) (c : Canvas) : EntryResult :=
  match e.fields.body with
  | .rule w h => .done e (c.paint env e.op (env.ruleMarks e.fields w h))
  | .stroke x1 y1 w => .done e (c.paint env e.op (env.strokeMarks e.fields x1 y1 w))
  | .bitmap w h stride sx sy address length =>
    let b : BitmapFields := ⟨w, h, stride, sx, sy, address, length⟩
    let needed := env.neededRows e.fields b
    match e.progress with
    | .bitmap next kept => env.bitmapRows e b (max next (needed.headD next)) kept needed c
    | .rule | .stroke | .text _ | .bars _ => env.bitmapRows e b (needed.headD 0) [] needed c
  | .text address count ascent descent =>
    match e.progress with
    | .text (some placed) => env.textRows e (env.glyphRows e.fields ascent descent placed) [] c
    | .text none | .rule | .stroke | .bitmap _ _ | .bars _ =>
      .waits e c address (2 * count) .textString
  | .bars address count _ height =>
    match e.progress with
    | .bars (some bars) => .done e (c.paint env e.op (env.barsMarks e.fields height bars))
    | .bars none | .rule | .stroke | .bitmap _ _ | .text _ => .waits e c address count .barRuns

/-- The painting of an entry gone on with the data of the read it waited for. -/
def PaintEnv.resumeEntry (env : PaintEnv) (e : TableEntry) (work : PaintWork) (bytes : List Byte)
    (c : Canvas) : EntryResult :=
  match e.fields.body, work with
  | .bitmap w h stride sx sy address length, .bitmapRow r rest =>
    let b : BitmapFields := ⟨w, h, stride, sx, sy, address, length⟩
    env.bitmapRows e b (r + 1) bytes rest (c.paint env e.op (env.bitmapMarks e.fields b r bytes))
  | .text _ count ascent descent, .textString =>
    env.placeCodes e ascent descent (readString count bytes) [] (env.originColumn e.fields) c
  | .text _ _ ascent descent, .textGlyph _ rest placed pen =>
    env.placeCodes e ascent descent rest (placed ++ [readGlyph pen bytes])
      (pen + glyphAdvance bytes + env.rs.extraSpacing) c
  | .text _ _ _ _, .textRow g rest gathered => env.textRows e rest (gathered ++ [(g, bytes)]) c
  | .bars _ _ moduleWidth height, .barRuns =>
    if runsValid bytes then
      let bars := layoutBars moduleWidth (env.originColumn e.fields) true bytes
      .done { e with progress := .bars (some bars) }
        (c.paint env e.op (env.barsMarks e.fields height bars))
    else .objectFault e c
  | _, _ => .done e c

/-- Where the painting of a table stops: every entry painted, or the entry at a place waiting for a
read. -/
inductive TableResult where
  | painted (table : List TableEntry) (canvas : Canvas)
  | waits (table : List TableEntry) (place : Nat) (canvas : Canvas) (address : Word) (length : Nat)
      (work : PaintWork)
  | objectFault (table : List TableEntry) (place : Nat) (canvas : Canvas)
  deriving DecidableEq, Repr

/-- A result for a table put behind an entry already painted. -/
def TableResult.behind (e : TableEntry) : TableResult → TableResult
  | .painted t c => .painted (e :: t) c
  | .waits t place c a n w => .waits (e :: t) (place + 1) c a n w
  | .objectFault t place c => .objectFault (e :: t) (place + 1) c

/-- The entries of a table painted in order, each whole before the next (R9, R36). -/
def PaintEnv.paintTable (env : PaintEnv) : List TableEntry → Canvas → TableResult
  | [], c => .painted [] c
  | e :: rest, c =>
    match env.beginEntry e c with
    | .done e' c' => (env.paintTable rest c').behind e'
    | .waits e' c' a n w => .waits (e' :: rest) 0 c' a n w
    | .objectFault e' c' => .objectFault (e' :: rest) 0 c'

/-- The painting of a table gone on at the entry that waited for a read. -/
def PaintEnv.resumeTable (env : PaintEnv) (table : List TableEntry) (place : Nat) (work : PaintWork)
    (bytes : List Byte) (c : Canvas) : TableResult :=
  match table, place with
  | [], _ => .painted [] c
  | e :: rest, 0 =>
    match env.resumeEntry e work bytes c with
    | .done e' c' => (env.paintTable rest c').behind e'
    | .waits e' c' a n w => .waits (e' :: rest) 0 c' a n w
    | .objectFault e' c' => .objectFault (e' :: rest) 0 c'
  | e :: rest, place + 1 => (env.resumeTable rest place work bytes c).behind e

/-- The starting progress of an entry by its kind (Table 3-11). -/
def startingProgress : ObjectBody → Progress
  | .rule _ _ => .rule
  | .stroke _ _ _ => .stroke
  | .bitmap _ _ _ _ _ _ _ => .bitmap 0 []
  | .text _ _ _ _ => .text none
  | .bars _ _ _ _ => .bars none

/-! ### The signature (00_scope.md, The signature) -/

/-- One bit shifted through the CRC-16 register: polynomial 0x1021, most significant bit first. -/
def crcShift (c : Half) : Half :=
  if c.getMsbD 0 then (c <<< 1) ^^^ 0x1021#16 else c <<< 1

/-- Eight shifts. -/
def crcShifts : Nat → Half → Half
  | 0, c => c
  | n + 1, c => crcShifts n (crcShift c)

/-- One byte fed to a CRC accumulator. -/
def crcByte (c : Half) (b : Byte) : Half := crcShifts 8 (c ^^^ (b.setWidth 16 <<< 8))

/-- Bytes fed to a CRC accumulator, in order. -/
def crcFeed (c : Half) (bytes : List Byte) : Half := bytes.foldl crcByte c

end Sys2Proof.Machine
end

