-- ==== Sys2Proof/Machine/Flags.lean ====
section
/-! DEFINITION. Every flag and every level computed from the state: cause bits and IRQ, interrupt
coalescing, STALL, the pins, and the register window's read values. -/

namespace Sys2Proof.Machine

/-! ### Engine predicates -/

/-- The engine works on jobs in RUNNING and DRAINING (R123, R137, R172). -/
def State.working (s : State) : Bool :=
  decide (s.engine.state = .running ∨ s.engine.state = .draining)

/-! ### Causes (R181) -/

/-- The six cause bits (Table 9-11). -/
inductive Cause where
  | completion
  | ringFault
  | engineFault
  | setupDone
  | stopped
  | refused
  deriving DecidableEq, Repr

/-- The bit of CAUSE and IEN that a cause has (Table 11-13). -/
def Cause.mask : Cause → BitVec 6
  | .completion => 0b000001#6
  | .ringFault => 0b000010#6
  | .engineFault => 0b000100#6
  | .setupDone => 0b001000#6
  | .stopped => 0b010000#6
  | .refused => 0b100000#6

/-- A cause bit set; one already set stays set (R181). -/
def State.setCause (s : State) (c : Cause) : State := s.setCauseBits (s.cause ||| c.mask)

/-- The bits given cleared (R181). -/
def State.clearCauses (s : State) (bits : BitVec 6) : State := s.setCauseBits (s.cause &&& ~~~bits)

/-- Whether a cause bit is set. -/
def State.causeSet (s : State) (c : Cause) : Bool := s.cause &&& c.mask != 0#6

/-! ### Completion counts and coalescing (R166, R179, R180) -/

/-- The unconsumed count: (CPOST − CREAD) modulo 65536 (R166). -/
def State.unconsumed (s : State) : Nat := (s.completion.cpost - s.completion.cread).toNat

/-- Index a lies between b and c (00_scope.md, Indices). -/
def indexBetween (a b c : Half) : Bool := decide ((a - b).toNat ≤ (c - b).toNat)

/-- The coalescing timer set or stopped. -/
def State.setTimer (s : State) (t : Option Nat) : State :=
  s.setCompletion { s.completion with timer := t }

/-- The coalescing rules after a posting (R179, R180): at count C or above COMPLETION is set and the
timer stops; else, when COMPLETION is clear, the timer is stopped and T is above 0, it starts. -/
def State.coalescePosting (s : State) (p : SetupParams) : State :=
  if p.coalesceCount ≤ s.unconsumed then (s.setCause .completion).setTimer none
  else if s.causeSet .completion = false ∧ s.completion.timer = none ∧ 0 < p.coalesceTime then
    s.setTimer (some p.coalesceTime)
  else s

/-- The count examined at a write of 1 to COMPLETION, the bit just cleared (Table 9-10). -/
def State.coalesceClear (s : State) (p : SetupParams) : State :=
  if p.coalesceCount ≤ s.unconsumed then (s.setCause .completion).setTimer none
  else if 1 ≤ s.unconsumed ∧ 0 < p.coalesceTime ∧ s.completion.timer = none then
    s.setTimer (some p.coalesceTime)
  else s

/-- The expiry of the coalescing timer: COMPLETION set and the timer stopped (R180). -/
def State.expireTimer (s : State) : State :=
  match s.completion.timer with
  | some _ => (s.setCause .completion).setTimer none
  | none => s

/-! ### STALL (R116) -/

/-- The head-current label: the first entry whose print status is not ENDED (R96). -/
def headCurrent (labels : List LabelEntry) : Option LabelEntry :=
  labels.find? fun l => decide (l.printStatus ≠ .ended)

/-- Rows of a buffer at or below a row cursor, that is, not yet passed (R116). -/
def BandBuffer.rowsFrom (b : BandBuffer) (cursor : Nat) : Nat :=
  b.first + b.count - max b.first cursor

/-- The ready rows that one buffer adds for a label: its rows from the cursor on, when it is the
label's and PRINTING or READY (R116). -/
def BandBuffer.readyRows (b : BandBuffer) (l : LabelEntry) : Nat :=
  if b.owner = some (.label l.ringIndex) ∧ (b.state = .printing ∨ b.state = .ready) then
    b.rowsFrom l.cursor
  else 0

/-- A label's ready rows (R116). -/
def Bands.readyRows (b : Bands) (l : LabelEntry) : Nat :=
  b.b0.readyRows l + b.b1.readyRows l + b.b2.readyRows l + b.b3.readyRows l

/-- The stall threshold in force; 0 with no session. -/
def State.stallThreshold (s : State) : Nat :=
  match s.engine.params with
  | some p => p.stallThreshold
  | none => 0

/-- The condition under which STALL is asserted (R116). -/
def State.stallCondition (s : State) : Bool :=
  if s.engine.state = .halted then true
  else
    match headCurrent s.labels with
    | none => false
    | some l =>
      decide ((l.printStatus = .aligning ∨ l.printStatus = .printing) ∧
        0 < s.stallThreshold ∧
        s.bands.readyRows l < min s.stallThreshold (l.length - l.cursor))

/-! ### IRQ and the pins -/

/-- IRQ is asserted exactly when a cause bit is set whose enable bit is set (R182). -/
def State.irqCondition (s : State) : Bool := s.cause &&& s.ien != 0#6

/-- Whether the delivery in flight is in a phase. -/
def HeadPort.inPhase (h : HeadPort) (p : DeliveryPhase) : Bool :=
  match h.delivery with
  | some d => decide (d.phase = p)
  | none => false

/-- The dots sent on SHIFT_DATA for the phase of the delivery in flight: the W dots of its plane, dot
0 first (R4, R106, R107). -/
def HeadPort.shifted (h : HeadPort) (headWidth : Nat) : List Bool :=
  match h.delivery with
  | none => []
  | some d =>
    match d.phase with
    | .mainShift | .mainBurn => shiftSequence headWidth d.main
    | .boostShift | .boostBurn => shiftSequence headWidth d.boost

/-- The head width W of the session, 0 with no parameters configured. -/
def State.headWidth (s : State) : Nat :=
  match s.engine.params with
  | some p => p.headWidth
  | none => 0

/-- The levels of the output pins that the state calls for between commands. Shifting and latching
are whole within a command, so their pins rest at the idle level (R103, log 22), and `shifted` holds
what the shift has sent. -/
def State.pinLevels (s : State) : Pins where
  irq := s.irqCondition
  stall := s.stallCondition
  burnMain := s.head.inPhase .mainBurn
  burnBoost := s.head.inPhase .boostBurn
  shiftClk := false
  shiftData := false
  latch := false
  shifted := s.head.shifted s.headWidth

/-- The pins brought to their levels: STALL and IRQ follow their conditions at every event (R117,
R182). -/
def State.settle (s : State) : State := s.setPins s.pinLevels

/-! ### The register window (R199, R206) -/

/-- STAT's engine state field. -/
def EngineState.code : EngineState → BitVec 3
  | .stopped => 0#3
  | .starting => 1#3
  | .running => 2#3
  | .draining => 3#3
  | .halted => 4#3

/-- STAT's ring state fields. -/
def RingState.code : RingState → BitVec 3
  | .active => 0#3
  | .flushing _ => 1#3
  | .faultedOverrun => 2#3
  | .faultedFetch => 3#3

/-- STAT's halt reason field. -/
def HaltReason.code : HaltReason → BitVec 2
  | .none => 0#2
  | .printRecord => 1#2
  | .imageRecord => 2#2

/-- The value of STAT (Table 11-13). -/
def State.statValue (s : State) : Word :=
  (s.engine.haltReason.code ++ 0#1 ++ s.rings.image.state.code ++ 0#1 ++
    s.rings.print.state.code ++ BitVec.ofNat 4 s.engine.faultCode ++ 0#1 ++
    s.engine.state.code : BitVec (2 + 1 + 3 + 1 + 3 + 4 + 1 + 3)).setWidth 32

/-- The value of a full read at an offset of the window, with no side effect (R199, R206). An
asserted RESET_N makes every read 0 (R196). An offset that is no multiple of 4 reads 0, which the spec
does not say: DESIGN CHOICE (log 31). -/
def State.readRegister (s : State) (offset : Nat) : Word :=
  if s.resetHeld then 0#32
  else if offset = 0x04 then s.statValue
  else if offset = 0x08 then s.setup
  else if offset = 0x0C then s.rings.print.producer.setWidth 32
  else if offset = 0x10 then s.rings.image.producer.setWidth 32
  else if offset = 0x14 then s.rings.image.consumer ++ s.rings.print.consumer
  else if offset = 0x18 then
    (BitVec.ofNat 9 s.completion.reserved ++ s.completion.cpost : BitVec (9 + 16)).setWidth 32
  else if offset = 0x1C then s.completion.cread.setWidth 32
  else if offset = 0x20 then s.cause.setWidth 32
  else if offset = 0x24 then s.ien.setWidth 32
  else 0#32

/-- A byte read of the window: the addressed byte of the register's 32-bit value (R206). A wider read
that runs past its register takes the next one's bytes: DESIGN CHOICE (log 31). -/
def State.readByte (s : State) (offset : Nat) : Byte :=
  (s.readRegister (offset / 4 * 4)).extractLsb' (8 * (offset % 4)) 8

/-- A 16-bit read of the window (R206). -/
def State.readHalf (s : State) (offset : Nat) : Half :=
  s.readByte (offset + 1) ++ s.readByte offset

/-- A 24-bit read of the window (R206). -/
def State.readThree (s : State) (offset : Nat) : BitVec 24 :=
  s.readByte (offset + 2) ++ s.readHalf offset

end Sys2Proof.Machine
end

