-- ==== Sys2Proof/Machine/Ops.lean ====
section
/-! DEFINITION. The operations the commands share: reservations and retire queues, takes and flushes,
band buffers, the end of a label and of the image job, the resets, and the count of discarded
transactions. -/

namespace Sys2Proof.Machine

/-- What a command answers: nothing moves while RESET_N is asserted (R196); otherwise the effect,
with the pins brought to their levels (R117, R182). -/
def State.act (s : State) (f : State → State) : Host.Outcome State Fault Refusal :=
  .next (if s.resetHeld then s else (f s).settle)

/-! ### Ring records (R139) -/

/-- The posted count: (producer − consumer) modulo 65536 (R139). -/
def RingRecord.posted (x : RingRecord) : Nat := (x.producer - x.consumer).toNat

/-- Whether the ring is FAULTED. -/
def RingState.faulted : RingState → Bool
  | .faultedOverrun | .faultedFetch => true
  | .active | .flushing _ => false

/-- The address of the descriptor at an index: base + 32·(i modulo size) (R139). -/
def descriptorAddress (p : SetupParams) (r : Ring) (i : Half) : Word :=
  p.ringBase.get r + BitVec.ofNat 32 (32 * (i.toNat % p.ringSize.get r))

/-- A ring record's state changed. -/
def State.setRingState (s : State) (r : Ring) (x : RingState) : State :=
  s.setRing r { s.rings.get r with state := x }

/-- A ring record's take in flight changed. -/
def State.setTake (s : State) (r : Ring) (t : TakeInFlight) : State :=
  s.setRing r { s.rings.get r with take := t }

/-! ### Reservations (R168) -/

/-- The free slots: size minus reservations minus unconsumed records (R166). -/
def State.freeSlots (s : State) (p : SetupParams) : Nat :=
  p.completionSize - s.completion.reserved - s.unconsumed

/-- A completion slot reserved. -/
def State.reserveSlot (s : State) : State :=
  s.setCompletion { s.completion with reserved := s.completion.reserved + 1 }

/-- A reservation released. -/
def State.releaseSlot (s : State) : State :=
  s.setCompletion { s.completion with reserved := s.completion.reserved - 1 }

/-- The data of a fetch in flight to be discarded at its end (R148); a held LABEL's bytes discarded
and its reservation released (R151). -/
def State.discardTake (s : State) (r : Ring) : State :=
  match (s.rings.get r).take with
  | .none => s
  | .fetch a _ => s.setTake r (.fetch a true)
  | .held _ => (s.setTake r .none).releaseSlot

/-- A ring becoming FAULTED, with RING_FAULT (R142, R149). The flush boundary goes with the state
FLUSHING. -/
def State.faultRing (s : State) (r : Ring) (x : RingState) : State :=
  (s.setRingState r x).setCause .ringFault

/-- The overrun check of a ring (R142), with its effect on a take in flight (R148, R151). -/
def State.checkOverrun (s : State) (p : SetupParams) (r : Ring) : State :=
  if (s.rings.get r).state.faulted then s
  else if p.ringSize.get r < (s.rings.get r).posted then
    (s.faultRing r .faultedOverrun).discardTake r
  else s

/-! ### Retire queues (R170) -/

/-- A ring's retire queue replaced. -/
def State.setRetire (s : State) (r : Ring) (q : List RetireEntry) : State :=
  s.setCompletion { s.completion with retire := s.completion.retire.set r q }

/-- An entry appended at the tail (R152). -/
def State.appendRetire (s : State) (r : Ring) (e : RetireEntry) : State :=
  s.setRetire r (s.completion.retire.get r ++ [e])

/-- An entry marked finished with results; a finished entry's results do not change (R170). -/
def RetireEntry.finish (ringIndex : Half) (res : Results) (e : RetireEntry) : RetireEntry :=
  if e.ringIndex = ringIndex ∧ e.results = none then { e with results := some res } else e

/-- The entry of a ring index marked finished (R170). -/
def State.finishRetire (s : State) (r : Ring) (ringIndex : Half) (res : Results) : State :=
  s.setRetire r ((s.completion.retire.get r).map (RetireEntry.finish ringIndex res))

/-- The ready record of a ring: its head entry, when finished (R171). -/
def State.readyRecord (s : State) (r : Ring) : Option (RetireEntry × Results) :=
  match s.completion.retire.get r with
  | [] => none
  | e :: _ => e.results.map fun res => (e, res)

/-! ### Labels (R94, R96) -/

/-- The label of a ring index. -/
def State.findLabel (s : State) (ringIndex : Half) : Option LabelEntry :=
  s.labels.find? fun l => decide (l.ringIndex = ringIndex)

/-- A change made to the label of a ring index. -/
def updateEntry (ringIndex : Half) (f : LabelEntry → LabelEntry) (l : LabelEntry) : LabelEntry :=
  if l.ringIndex = ringIndex then f l else l

/-- The label of a ring index changed. -/
def State.updateLabel (s : State) (ringIndex : Half) (f : LabelEntry → LabelEntry) : State :=
  s.setLabels (s.labels.map (updateEntry ringIndex f))

/-- The image job, if any, changed. -/
def State.updateImage (s : State) (f : ImageJob → ImageJob) : State := s.setImage (s.image.map f)

/-- A job's report changed. -/
def State.updateReport (s : State) (o : Owner) (f : JobReport → JobReport) : State :=
  match o with
  | .label i => s.updateLabel i fun l => { l with report := f l.report }
  | .image => s.updateImage fun j => { j with report := f j.report }

/-- A label's render status changed. -/
def State.setRenderStatus (s : State) (ringIndex : Half) (x : RenderStatus) : State :=
  s.updateLabel ringIndex fun l => { l with renderStatus := x }

/-- Whether a label still has to load or render (R99). -/
def LabelEntry.busy (l : LabelEntry) : Bool :=
  decide (l.renderStatus = .loading ∨ l.renderStatus = .rendering)

/-- Whether a ring's render side is idle (R99, R126). -/
def State.sideIdle (s : State) : Ring → Bool
  | .print => s.labels.all (fun l => !l.busy) && decide (s.loads.print = none)
  | .image => decide (s.image = none) && decide (s.loads.image = none)

/-! ### Walker contexts (R21, R31) -/

/-- A side's walker context and table emptied (R31). -/
def State.emptyWalker (s : State) (side : Ring) : State :=
  (s.setWalker side WalkerContext.empty).setTable side []

/-- A job's report as its walker context is set up (R21, R39). -/
def JobReport.setUp (r : JobReport) : JobReport :=
  { r with
    admitted := 0
    faultIndex := noObject
    warnings :=
      { r.warnings with lateObject := false, shortSource := false, glyphMissing := false } }

/-- A side's walker context and table set up for a job (R21). -/
def State.setUpWalker (s : State) (side : Ring) (o : Owner) (listAddress : Word)
    (objectCount : Nat) : State :=
  ((s.setWalker side ⟨some o, listAddress, objectCount, 0, none⟩).setTable side []).updateReport o
    JobReport.setUp

/-! ### Band buffers (R62 to R70) -/

/-- A buffer returned to FREE: the owner becomes none (R62). -/
def BandBuffer.toFree (b : BandBuffer) : BandBuffer := { b with state := .free, owner := none }

/-- Every selected buffer returned to FREE, and out of the print band queue (R68, R69). -/
def State.freeBands (s : State) (sel : BufferId → BandBuffer → Bool) : State :=
  let free (i : BufferId) : BandBuffer :=
    if sel i (s.bands.get i) then (s.bands.get i).toFree else s.bands.get i
  (s.setBands ⟨free 0, free 1, free 2, free 3⟩).setPrintQueue
    (s.printQueue.filter fun i => !sel i (s.bands.get i))

/-- A job's READY and PRINTING buffers taken back (R69). -/
def State.takeBack (s : State) (o : Owner) : State :=
  s.freeBands fun _ b => decide (b.owner = some o ∧ (b.state = .ready ∨ b.state = .printing))

/-- Whether the delivery in flight was taken from a buffer (R67). -/
def HeadPort.deliversFrom (h : HeadPort) (i : BufferId) : Bool :=
  match h.delivery with
  | some d => decide (d.kind = .row i)
  | none => false

/-- A label's buffers whose last row lies above its cursor returned to FREE: a READY one at once
(R68), the PRINTING one when no delivery from it is in flight (R67). -/
def State.freePassed (s : State) (ringIndex : Half) (cursor : Nat) : State :=
  s.freeBands fun i b =>
    decide (b.owner = some (.label ringIndex) ∧ b.first + b.count ≤ cursor ∧
      (b.state = .ready ∨ (b.state = .printing ∧ s.head.deliversFrom i = false)))

/-- One buffer returned to FREE. -/
def State.freeBand (s : State) (i : BufferId) : State := s.setBand i (s.bands.get i).toFree

/-- The number of FREE buffers. -/
def Bands.freeCount (b : Bands) : Nat :=
  (bufferIds.filter fun i => decide ((b.get i).state = .free)).length

/-- The lowest-numbered FREE buffer (R63). -/
def Bands.lowestFree (b : Bands) : Option BufferId :=
  bufferIds.find? fun i => decide ((b.get i).state = .free)

/-- The PRINTING buffer, if any (R62). -/
def Bands.printingBuffer (b : Bands) : Option BufferId :=
  bufferIds.find? fun i => decide ((b.get i).state = .printing)

/-! ### Ends of jobs (R118, R119, R134) -/

/-- Whether the band render in flight serves a job. -/
def State.rendersJob (s : State) (o : Owner) : Bool :=
  match s.render with
  | some r => decide (r.job = o)
  | none => false

/-- The band render in flight to stop at its next object boundary (R76). -/
def State.setCutPending (s : State) : State :=
  s.setRender (s.render.map fun r => { r with cutPending := true })

/-- A label entry at its end: its status is set at that moment (R118). -/
def LabelEntry.atEnd (st : Status) (faultIndex : Half) (l : LabelEntry) : LabelEntry :=
  { l with
    printStatus := .ended
    report := { l.report with status := some st, faultIndex := faultIndex } }

/-- The pending padded delivery of a label discarded (R119). -/
def State.dropPendingPad (s : State) (ringIndex : Half) : State :=
  match s.head.pendingPad with
  | some q =>
    if q.label = ringIndex then s.setHead { s.head with pendingPad := none } else s
  | none => s

/-- The render of an ended label stopped (R98): cut at the next boundary when its band render is in
flight, CUT at once when it is RENDERING between bands; LOADING waits for its read. -/
def State.stopLabelRender (s : State) (l : LabelEntry) : State :=
  if s.rendersJob (.label l.ringIndex) then s.setCutPending
  else if l.renderStatus = .rendering then
    (s.setRenderStatus l.ringIndex .cut).emptyWalker .print
  else s

/-- The end of a label (R118, R119): one already ENDED is not changed. -/
def State.endLabel (s : State) (ringIndex : Half) (st : Status) (faultIndex : Half) : State :=
  match s.findLabel ringIndex with
  | none => s
  | some l =>
    if l.printStatus = .ended then s
    else
      (((s.updateLabel ringIndex (LabelEntry.atEnd st faultIndex)).takeBack
        (.label ringIndex)).dropPendingPad ringIndex).stopLabelRender l

/-- The image job's status set, when it is not yet set (R134, R135). -/
def ImageJob.atEnd (st : Status) (faultIndex : Half) (j : ImageJob) : ImageJob :=
  match j.report.status with
  | none => { j with report := { j.report with status := some st, faultIndex := faultIndex } }
  | some _ => j

/-- The image job ended: its status set, and a band render of it to be cut (R76, R78); with no band
render of it in flight its walker context and table are emptied at the end (R31). -/
def State.endImage (s : State) (st : Status) (faultIndex : Half) : State :=
  let s := s.updateImage (ImageJob.atEnd st faultIndex)
  if s.rendersJob .image then s.setCutPending else s.emptyWalker .image

/-- A job ended (R78). -/
def State.endJob (s : State) (o : Owner) (st : Status) (faultIndex : Half) : State :=
  match o with
  | .label i => s.endLabel i st faultIndex
  | .image => s.endImage st faultIndex

/-- The results of a label at its retire entry (Table 6-10). -/
def LabelEntry.results (l : LabelEntry) : Results where
  status := l.report.status.getD .ok
  warnings := l.report.warnings
  rowsPadded := l.rowsPadded
  signature := l.signature
  admitted := l.report.admitted
  faultIndex := l.report.faultIndex

/-- The results of the image job at its retire entry (Table 7-6). -/
def ImageJob.results (j : ImageJob) : Results where
  status := j.report.status.getD .ok
  warnings := { j.report.warnings with padded := false }
  rowsPadded := 0
  signature := j.signature
  admitted := j.report.admitted
  faultIndex := j.report.faultIndex

/-- The image job leaves flight as its phase becomes ENDING (R136). -/
def State.imageLeaves (s : State) : State :=
  match s.image with
  | none => s
  | some j => (s.finishRetire .image j.ringIndex j.results).setImage none

/-! ### Takes (R152) -/

/-- The take proper: consumer advance, reservation passed on, retire entry appended (R152). -/
def State.takeProper (s : State) (r : Ring) (kind : Byte) (tag : Half) (res : Option Results) :
    State :=
  let x := s.rings.get r
  (s.setRing r { x with consumer := x.consumer + 1#16, take := .none }).appendRetire r
    ⟨x.consumer, tag, kind, res⟩

/-- A descriptor finished at the take (R152). -/
def State.takeFinished (s : State) (r : Ring) (d : BitVec 256) (st : Status) : State :=
  s.takeProper r (descriptorKind d) (descriptorTag d) (some (plainResults st))

/-- A FLUSHING ring whose consumer index has reached the boundary returns to ACTIVE (R161). -/
def State.endFlushAtBoundary (s : State) (r : Ring) : State :=
  match (s.rings.get r).state with
  | .flushing b => if (s.rings.get r).consumer = b then s.setRingState r .active else s
  | .active | .faultedOverrun | .faultedFetch => s

/-- A descriptor taken as FLUSHED (R161). -/
def State.takeFlushed (s : State) (r : Ring) (d : BitVec 256) : State :=
  (s.takeFinished r d .flushed).endFlushAtBoundary r

/-- A new label entry (Table 6-1). -/
def newLabel (ringIndex tag : Half) (f : LabelFields) (x : RenderStatus) : LabelEntry where
  ringIndex := ringIndex
  tag := tag
  length := f.length
  pad := f.pad
  align := f.align
  markLimit := f.markLimit
  renderStatus := x
  printStatus := .waiting
  nextBand := 0
  cursor := 0
  rowsSent := 0
  rowsPadded := 0
  steps := 0
  signature := signatureInit
  report := JobReport.initial

/-- A new image job (Table 7-1). -/
def newImage (ringIndex tag : Half) (f : ImageFields) (x : ImagePhase) : ImageJob where
  ringIndex := ringIndex
  tag := tag
  width := f.width
  height := f.height
  destination := f.destination
  stride := f.stride
  phase := x
  nextBand := 0
  buffer := none
  write := none
  signature := signatureInit
  report := JobReport.initial

/-- A valid LABEL taken: label entry created, and its load begun or its walker context set up (R95,
R89). -/
def State.takeLabel (s : State) (d : BitVec 256) (f : LabelFields) : State :=
  let i := s.rings.print.consumer
  let t := s.takeProper .print (descriptorKind d) (descriptorTag d) none
  if f.stateAddress = 0#32 then
    (t.setLabels (t.labels ++ [newLabel i (descriptorTag d) f .rendering])).setUpWalker .print
      (.label i) f.listAddress f.objectCount
  else
    (t.setLabels (t.labels ++ [newLabel i (descriptorTag d) f .loading])).setLoad .print
      (some ⟨.label i, f.stateAddress, f.listAddress, f.objectCount, false⟩)

/-- A valid IMAGE taken: image job created, and its load begun or its walker context set up (R126,
R90). -/
def State.takeImage (s : State) (d : BitVec 256) (f : ImageFields) : State :=
  let i := s.rings.image.consumer
  let t := s.takeProper .image (descriptorKind d) (descriptorTag d) none
  if f.stateAddress = 0#32 then
    (t.setImage (some (newImage i (descriptorTag d) f .requesting))).setUpWalker .image .image
      f.listAddress f.objectCount
  else
    (t.setImage (some (newImage i (descriptorTag d) f .loading))).setLoad .image
      (some ⟨.image, f.stateAddress, f.listAddress, f.objectCount, false⟩)

/-- A valid STATE taken: its load begins (R91). -/
def State.takeStateDescriptor (s : State) (r : Ring) (d : BitVec 256) (address : Word) : State :=
  let i := (s.rings.get r).consumer
  (s.takeProper r (descriptorKind d) (descriptorTag d) none).setLoad r
    (some ⟨.state i, address, 0#32, 0, false⟩)

/-! ### The fetch conditions (R145, R146, R169) -/

/-- Every condition of R145 or R146 but a free slot: the ring has a slot request. -/
def State.slotRequest (s : State) (r : Ring) : Bool :=
  let x := s.rings.get r
  decide (s.engine.state = .running) && decide (x.take = .none) &&
    decide ((s.completion.retire.get r).length < 8) &&
    match x.state with
    | .active => decide (0 < x.posted) && s.sideIdle r
    | .flushing b => decide (x.consumer ≠ b)
    | .faultedOverrun | .faultedFetch => false

/-- Whether two requests meet at the last free slot (Table 9-3). -/
def State.slotContested (s : State) (p : SetupParams) : Bool :=
  decide (s.freeSlots p = 1) && s.slotRequest .print && s.slotRequest .image

/-- Whether the completion unit grants a slot to a ring now (Table 9-3). -/
def State.slotGranted (s : State) (p : SetupParams) (r : Ring) : Bool :=
  s.slotRequest r && decide (1 ≤ s.freeSlots p) &&
    (!s.slotContested p || decide (s.completion.reservationTurn = r))

/-! ### Discarded transactions (R198) -/

/-- Operations outstanding that may be carried out as several bus transactions. -/
def State.openOperations (s : State) : Nat :=
  (if s.engine.setupFetch = .inFlight then 1 else 0) +
  (match s.rings.print.take with | .fetch _ _ => 1 | .none | .held _ => 0) +
  (match s.rings.image.take with | .fetch _ _ => 1 | .none | .held _ => 0) +
  (if s.loads.print.isSome then 1 else 0) + (if s.loads.image.isSome then 1 else 0) +
  (match s.render.map RenderRecord.read with
    | some (.object _ _ _) => 1
    | some (.record _) | some .none | none => 0) +
  (if (s.image.bind ImageJob.write).isSome then 1 else 0) +
  (if s.completion.write.isSome then 1 else 0)

/-- The record fetch outstanding, one 32-byte bus read (R22). -/
def State.openRecordFetch (s : State) : Nat :=
  match s.render.map RenderRecord.read with
  | some (.record _) => 1
  | some (.object _ _ _) | some .none | none => 0

/-- The sum of the free values for the transactions beyond the first of `n` operations. -/
def extraOutstanding (from_ : Nat) : Nat → Nat
  | 0 => 0
  | n + 1 => Config.extraTransactions from_ + extraOutstanding (from_ + 1) n

/-- The bus transactions still outstanding counted as discarded (R198): one for each operation and
as many more as the part has split it into (free value, log 8). In HALTED they are counted
already. -/
def State.countDiscarded (s : State) : State :=
  if s.engine.state = .halted then s
  else
    (s.setEngine { s.engine with
      discarded := s.engine.discarded + s.openRecordFetch + s.openOperations +
        extraOutstanding s.freeCount s.openOperations }).setFreeCount
      (s.freeCount + s.openOperations)

/-! ### Resets and HALTED (R140, R167, R187, R194 to R197) -/

/-- Every block but engine control and the register window at its START and ENGINE_RESET values; the
contents of the band buffers stay (R35, R80, R82, R125, R138, R140, R167). -/
def State.clearSession (s : State) : State :=
  { s with
    rings := ⟨RingRecord.initial, RingRecord.initial⟩
    completion := CompletionUnit.initial
    renderStates := ⟨RenderState.initial, RenderState.initial⟩
    loads := ⟨none, none⟩
    walkers := ⟨WalkerContext.empty, WalkerContext.empty⟩
    tables := ⟨[], []⟩
    bands := ⟨.freed s.bands.b0.rows, .freed s.bands.b1.rows, .freed s.bands.b2.rows,
      .freed s.bands.b3.rows⟩
    printQueue := []
    render := none
    labels := []
    head := HeadPort.initial
    image := none }

/-- The engine enters HALTED because a ring's record was lost (R174, R194): outstanding transactions
are counted as discarded and the delivery in flight stops (R124). -/
def State.enterHalted (s : State) (r : Ring) : State :=
  let t := s.countDiscarded
  ((t.setEngine { t.engine with
    state := .halted
    haltReason := match r with | .print => .printRecord | .image => .imageRecord }).setHead
      { t.head with delivery := none }).setCause .engineFault

/-- The drain conditions (R193). -/
def State.drained (s : State) : Bool :=
  s.labels.isEmpty && s.image.isNone && s.completion.retire.print.isEmpty &&
    s.completion.retire.image.isEmpty && decide (s.rings.print.take = .none) &&
    decide (s.rings.image.take = .none) && s.head.delivery.isNone

/-- The engine's passage from DRAINING to STOPPED (R193). -/
def State.toStopped (s : State) : State :=
  (s.setEngine { s.engine with state := .stopped }).setCause .stopped

end Sys2Proof.Machine
end

