-- ==== Sys2Proof/Machine/Completion.lean ====
section
/-! DEFINITION. The meanings of the completion unit's commands (chapter 9): the start and end of a
completion write, the expiry of the coalescing timer, and the passing of time on an empty queue. -/

namespace Sys2Proof.Machine

/-- The write of a ring's ready record begun at the slot of CPOST (R173, R176). -/
def State.beginWrite (s : State) (p : SetupParams) (r : Ring) (e : RetireEntry) (res : Results) :
    State :=
  s.setCompletion { s.completion with
    write := some ⟨r,
      p.completionBase + BitVec.ofNat 32 (16 * (s.completion.cpost.toNat % p.completionSize)),
      completionRecord r e res⟩ }

/-- The posting turn passed on, as a choice between two ready rings does (R172). -/
def State.passPostingTurn (s : State) : State :=
  s.setCompletion { s.completion with postingTurn := s.completion.postingTurn.other }

/-- The port's choice among the ready records (Table 9-6). -/
def State.choosePort (s : State) (p : SetupParams) : State :=
  match s.readyRecord .print, s.readyRecord .image with
  | none, none => s
  | some (e, res), none => s.beginWrite p .print e res
  | none, some (e, res) => s.beginWrite p .image e res
  | some (e, res), some (e', res') =>
    match s.completion.postingTurn with
    | .print => s.passPostingTurn.beginWrite p .print e res
    | .image => s.passPostingTurn.beginWrite p .image e' res'

/-- COMPLETION_WRITE_START: in RUNNING and DRAINING, with the port free (R172). -/
def execCompletionWriteStart (s : State) : Host.Outcome State Fault Refusal :=
  s.act fun s =>
    match s.engine.params with
    | none => s
    | some p => if s.working ∧ s.completion.write = none then s.choosePort p else s

/-- A record posted (R173): CPOST advances, the reservation becomes a posted record, the entry leaves
its queue, the port is free, and the coalescing rules are applied. -/
def State.post (s : State) (p : SetupParams) (w : CompletionWrite) : State :=
  (s.setCompletion { s.completion with
    cpost := s.completion.cpost + 1#16
    reserved := s.completion.reserved - 1
    retire := s.completion.retire.set w.ring (s.completion.retire.get w.ring).tail
    write := none }).coalescePosting p

/-- The port freed. -/
def State.endWrite (s : State) : State := s.setCompletion { s.completion with write := none }

/-- COMPLETION_WRITE_END: the record posts, or a bus error halts the engine (R173, R174). -/
def execCompletionWriteEnd (result : BusWrite) (s : State) : Host.Outcome State Fault Refusal :=
  s.act fun s =>
    match s.engine.params, s.completion.write with
    | some p, some w =>
      if s.working then
        match result with
        | .acknowledged => s.post p w
        | .busError => s.endWrite.enterHalted w.ring
      else s
    | _, _ => s

/-- COALESCING_TIMER_EXPIRY, in every engine state (R180). -/
def execCoalescingTimerExpiry (s : State) : Host.Outcome State Fault Refusal :=
  s.act State.expireTimer

/-- One microsecond of the coalescing timer (R180): it counts down and expires at 0. -/
def State.countDown (s : State) : State :=
  match s.completion.timer with
  | some (n + 2) => s.setTimer (some (n + 1))
  | some 0 | some 1 => s.expireTimer
  | none => s

/-- What a step on an empty queue answers: one microsecond passes (log 3). -/
def tick (s : State) : Host.Outcome State Fault Refusal := s.act State.countDown

end Sys2Proof.Machine
end

