-- ==== Sys2Proof/WellFormed.lean ====
section
/-! DEFINITION. Which terms of `Instr` are commands of the part: the three rows whose operands can
spell something that is no command, or another row's. -/

namespace Sys2Proof

/-- Whether a value written to CMD names a command (R207). -/
def namesCommand (value : Word) : Bool := (commandOfCode value).isSome

/-- The longest read of object data is 512 bytes: a string of 256 codes (R18) or 512 bar runs. -/
def longestObjectRead : Nat := 512

/-- Whether a term of `Instr` is a command of its row. -/
def Instr.wellFormed : Instr → Bool
  | .cmdUndefinedCode value => !namesCommand value
  | .registerWriteIgnored offset width value =>
    decide (windowWrite offset width value = .registerWriteIgnored offset width value)
  | .objectDataReadEnd (.data bytes) =>
    decide (1 ≤ bytes.length ∧ bytes.length ≤ longestObjectRead)
  | .objectDataReadEnd .busError => true
  | .start | .stop | .abortPrint | .abortImage | .resetPrintRing | .resetImageRing
  | .engineReset | .setupWrite _ | .producerWrite _ _ | .creadWrite _ | .causeWrite _
  | .ienWrite _ | .resetN | .resetNDeasserted | .rowStep | .mark | .coalescingTimerExpiry
  | .burnMainEnd | .burnBoostEnd | .setupFetchStart | .setupFetchEnd _
  | .descriptorFetchStart _ | .descriptorFetchEnd _ _ | .heldLabelTake
  | .stateRecordLoadEnd _ _ | .rasterizerGrant | .recordFetchEnd _ | .bandRenderEnd
  | .bandRenderCut | .rowWriteEnd _ | .leaveWaiting | .labelLeavesList | .completionWriteStart
  | .completionWriteEnd _ | .discardedTransactionEnd | .drainToStopped => true

end Sys2Proof
end

