-- ==== Sys2Proof/Machine/Engine.lean ====
section
/-! DEFINITION. The meanings of engine control's commands (chapter 10): START, STOP, ENGINE_RESET, an
undefined CMD code, RESET_N and its end, the setup fetch, discarded transactions, and the passage
from DRAINING to STOPPED. -/

namespace Sys2Proof.Machine

/-- START accepted (R187). -/
def State.openSession (s : State) : State :=
  s.clearSession.setEngine {
    state := .starting
    pendingStop := false
    params := none
    setupAddress := s.setup
    setupFetch := .waiting
    faultCode := 0
    haltReason := .none
    discarded := s.engine.discarded }

/-- START: accepted in STOPPED, refused in every other state (R185, R187). -/
def execStart (s : State) : Host.Outcome State Fault Refusal :=
  s.act fun s => if s.engine.state = .stopped then s.openSession else s.setCause .refused

/-- STOP accepted in RUNNING (R192): takes in flight are discarded, and a session already drained
passes to STOPPED at once. -/
def State.beginDrain (s : State) : State :=
  let t := ((s.setEngine { s.engine with state := .draining }).discardTake .print).discardTake .image
  if t.drained then t.toStopped else t

/-- STOP: pending in STARTING (R191), to DRAINING in RUNNING (R192), else refused (R185). -/
def execStop (s : State) : Host.Outcome State Fault Refusal :=
  s.act fun s =>
    match s.engine.state with
    | .starting => s.setEngine { s.engine with pendingStop := true }
    | .running => s.beginDrain
    | .stopped | .draining | .halted => s.setCause .refused

/-- ENGINE_RESET (R197, R198): every block but SETUP and IEN, with the transactions outstanding
counted as discarded. -/
def State.engineReset (s : State) : State :=
  let t := s.countDiscarded
  (t.clearSession.setCauseBits 0#6).setEngine
    { EngineControl.initial with
      setupAddress := s.engine.setupAddress
      discarded := t.engine.discarded }

/-- ENGINE_RESET: accepted in every engine state (R185, R197). -/
def execEngineReset (s : State) : Host.Outcome State Fault Refusal := s.act State.engineReset

/-- A full write to CMD of a value that names no command: refused in every state (R207). A value
that names one is another row's command. -/
def execCmdUndefinedCode (value : Word) (s : State) : Host.Outcome State Fault Refusal :=
  if namesCommand value then .refused .illFormed else s.act fun s => s.setCause .refused

/-- Arbitrary rows of a buffer after RESET_N (R80, log 9), the buffer's rows counted from
`start`. -/
def arbitraryRows (n start : Nat) : List Row :=
  (List.range rowsPerBuffer).map fun j => Config.arbitraryRow n (start + j)

/-- Every block and register at its reset value, RESET_N held (R196). -/
def State.deviceReset (s : State) : State :=
  { s.clearSession with
    resetHeld := true
    setup := 0#32
    cause := 0#6
    ien := 0#6
    engine := EngineControl.initial
    bands := ⟨.freed (arbitraryRows s.freeCount 0), .freed (arbitraryRows s.freeCount 64),
      .freed (arbitraryRows s.freeCount 128), .freed (arbitraryRows s.freeCount 192)⟩
    pins := Pins.idle
    freeCount := s.freeCount + 1 }

/-- RESET_N asserted, in every state (R196). -/
def execResetN (s : State) : Host.Outcome State Fault Refusal := .next s.deviceReset

/-- RESET_N deasserted: the engine is STOPPED and the register window accepts accesses (R196). -/
def execResetNDeasserted (s : State) : Host.Outcome State Fault Refusal :=
  .next { s with resetHeld := false }.settle

/-- The setup fetch of an accepted START begins, once no discarded transaction is outstanding (R188,
R198). -/
def State.beginSetupFetch (s : State) : State :=
  if s.engine.state = .starting ∧ s.engine.setupFetch = .waiting ∧ s.engine.discarded = 0 then
    s.setEngine { s.engine with setupFetch := .inFlight }
  else s

/-- SETUP_FETCH_START (R188, R198). -/
def execSetupFetchStart (s : State) : Host.Outcome State Fault Refusal := s.act State.beginSetupFetch

/-- The setup outcome (R190, R191): the code goes to STAT and SETUP_DONE is set; with code 0 and no
pending STOP the parameters are written and the engine becomes RUNNING, with the overrun check of
both rings (R142); otherwise it returns to STOPPED and no parameter is taken. -/
def State.setupOutcome (s : State) (result : BusRead (BitVec 512)) : State :=
  let stopped :=
    (s.setEngine { s.engine with
      state := .stopped
      pendingStop := false
      setupFetch := .idle
      faultCode := setupFaultCode result }).setCause .setupDone
  match result with
  | .busError => stopped
  | .data d =>
    let p := readSetupBlock d
    if s.engine.pendingStop = false ∧ p.faultCode = 0 then
      ((((s.setEngine { s.engine with
        state := .running
        params := some p
        setupFetch := .idle
        faultCode := 0 }).setCause .setupDone).checkOverrun p .print).checkOverrun p .image)
    else stopped

/-- SETUP_FETCH_END (R188 to R191). -/
def execSetupFetchEnd (result : BusRead (BitVec 512)) (s : State) :
    Host.Outcome State Fault Refusal :=
  s.act fun s =>
    if s.engine.state = .starting ∧ s.engine.setupFetch = .inFlight then s.setupOutcome result else s

/-- DISCARDED_TRANSACTION_END: the count falls by 1 and the result reaches no block (R198). -/
def execDiscardedTransactionEnd (s : State) : Host.Outcome State Fault Refusal :=
  s.act fun s => s.setEngine { s.engine with discarded := s.engine.discarded - 1 }

/-- DRAIN_TO_STOPPED: DRAINING is left when the drain conditions hold (R193). -/
def execDrainToStopped (s : State) : Host.Outcome State Fault Refusal :=
  s.act fun s => if s.engine.state = .draining ∧ s.drained then s.toStopped else s

end Sys2Proof.Machine
end

