-- ==== Sys2Proof/Machine/Print.lean ====
section
/-! DEFINITION. The meanings of the print path's commands (chapter 6): ROW_STEP, MARK, the ends of the
burns, leaving WAITING, and leaving the label list. -/

namespace Sys2Proof.Machine

/-! ### Row delivery (R105 to R107) -/

/-- Whether a buffer is a label's and holds a grid row (R105). -/
def BandBuffer.holdsRow (b : BandBuffer) (ringIndex : Half) (row : Nat) : Bool :=
  decide (b.owner = some (.label ringIndex) ∧ b.first ≤ row ∧ row < b.first + b.count)

/-- Where a due row is found (R105): the PRINTING buffer, the READY buffer at the queue head, or
neither. -/
inductive RowSource where
  | printing (buffer : BufferId)
  | queueHead (buffer : BufferId)
  | underrun
  deriving DecidableEq, Repr

/-- The buffer that holds a label's due row (R66, R105). The head takes a new band only while no
buffer is PRINTING (R66). -/
def State.rowSource (s : State) (l : LabelEntry) : RowSource :=
  match s.bands.printingBuffer, s.printQueue with
  | some i, _ =>
    if (s.bands.get i).holdsRow l.ringIndex l.cursor then .printing i else .underrun
  | none, i :: _ =>
    if (s.bands.get i).holdsRow l.ringIndex l.cursor then .queueHead i else .underrun
  | none, [] => .underrun

/-- The boost plane of a row: ink where the row is ink and both history rows are paper (R107). -/
def boostPlane (row h1 h2 : Row) : Row := row &&& ~~~(h1 ||| h2)

/-- A row delivery as it begins from a buffer (R105, R107). Its main plane is shifted and latched
within the step, and BURN_MAIN is asserted (R106, log 22). -/
def State.rowDelivery (s : State) (p : SetupParams) (l : LabelEntry) (i : BufferId) : Delivery :=
  let b := s.bands.get i
  let plane := firstDots p.headWidth (b.rows.getD (l.cursor - b.first) Row.paper)
  ⟨l.ringIndex, .row i, .mainBurn, plane, boostPlane plane s.head.h1 s.head.h2⟩

/-- A padded delivery of a label covering some rows (R111). -/
def paddedDelivery (ringIndex : Half) (rows : Nat) : Delivery :=
  ⟨ringIndex, .padded rows, .mainBurn, Row.paper, Row.paper⟩

/-- A row passed from rendered data: cursor and rows sent go up by 1 (R105). -/
def LabelEntry.rowSentOn (l : LabelEntry) : LabelEntry :=
  { l with cursor := l.cursor + 1, rowsSent := l.rowsSent + 1 }

/-- A row given up: cursor and rows padded go up by 1, and PADDED is set (R109, R110). -/
def LabelEntry.rowPadded (l : LabelEntry) : LabelEntry :=
  { l with
    cursor := l.cursor + 1
    rowsPadded := l.rowsPadded + 1
    report := { l.report with warnings := { l.report.warnings with padded := true } } }

/-- A due row taken from a buffer (R105). -/
def State.deliverRow (s : State) (p : SetupParams) (l : LabelEntry) (i : BufferId) : State :=
  (s.setHead { s.head with delivery := some (s.rowDelivery p l i) }).updateLabel l.ringIndex
    LabelEntry.rowSentOn

/-- The READY buffer at the queue head taken by the head port (R66). -/
def State.headTake (s : State) (i : BufferId) : State :=
  (s.setBand i { s.bands.get i with state := .printing }).setPrintQueue s.printQueue.tail

/-- A due row padded with no delivery in flight: a padded delivery of one row begins (R109). -/
def State.padRow (s : State) (l : LabelEntry) : State :=
  ((s.setHead { s.head with delivery := some (paddedDelivery l.ringIndex 1) }).updateLabel
    l.ringIndex LabelEntry.rowPadded).freePassed l.ringIndex (l.cursor + 1)

/-- The pending padded delivery with one more row of a label (R110). -/
def morePending (ringIndex : Half) : Option PendingPad → PendingPad
  | none => ⟨ringIndex, 1⟩
  | some q => ⟨q.label, q.rows + 1⟩

/-- A due row padded at an early step: it joins the pending padded delivery (R110). -/
def State.padEarly (s : State) (l : LabelEntry) : State :=
  ((s.setHead { s.head with
      pendingPad := some (morePending l.ringIndex s.head.pendingPad) }).updateLabel
    l.ringIndex LabelEntry.rowPadded).freePassed l.ringIndex (l.cursor + 1)

/-- A row due with no delivery in flight (R105, R109, R112). -/
def State.dueRow (s : State) (p : SetupParams) (l : LabelEntry) : State :=
  match s.rowSource l with
  | .printing i => s.deliverRow p l i
  | .queueHead i => (s.headTake i).deliverRow p l i
  | .underrun => if l.pad then s.padRow l else s.endLabel l.ringIndex .underrun noObject

/-- A row due while a delivery is in flight: an underrun whatever the buffers hold (R110, R112). -/
def State.earlyStep (s : State) (l : LabelEntry) : State :=
  if l.pad then s.padEarly l else s.endLabel l.ringIndex .underrun noObject

/-- A ROW_STEP taken while ALIGNING (R101). -/
def State.countStep (s : State) (l : LabelEntry) : State :=
  let t := s.updateLabel l.ringIndex fun l => { l with steps := l.steps + 1 }
  if l.markLimit ≤ l.steps + 1 then t.endLabel l.ringIndex .noMark noObject else t

/-- The disposition of a ROW_STEP by the head-current label and the head port (Table 6-6). -/
def State.rowStep (s : State) (p : SetupParams) (l : LabelEntry) : State :=
  match l.printStatus with
  | .waiting | .ended => s
  | .aligning => s.countStep l
  | .printing =>
    if l.length ≤ l.cursor then s
    else
      match s.head.delivery with
      | none => s.dueRow p l
      | some _ => s.earlyStep l

/-- ROW_STEP (R104). -/
def execRowStep (s : State) : Host.Outcome State Fault Refusal :=
  s.act fun s =>
    match s.engine.params, headCurrent s.labels with
    | some p, some l => if s.working then s.rowStep p l else s
    | _, _ => s

/-- MARK: an ALIGNING head-current label goes to PRINTING; every other MARK is ignored (R102). -/
def execMark (s : State) : Host.Outcome State Fault Refusal :=
  s.act fun s =>
    match headCurrent s.labels with
    | some l =>
      if s.working ∧ l.printStatus = .aligning then
        s.updateLabel l.ringIndex fun l => { l with printStatus := .printing }
      else s
    | none => s

/-! ### The end of a delivery (R106 to R108, R111) -/

/-- The history rows at the end of a delivery: R108 for a rendered row, R111 for padding. -/
def HeadPort.history (h : HeadPort) (d : Delivery) : Row × Row :=
  match d.kind with
  | .row _ => (d.main, h.h1)
  | .padded n => (Row.paper, if n = 1 then h.h1 else Row.paper)

/-- The bytes a delivery feeds to its label's signature (R115). -/
def Delivery.signatureBytes (d : Delivery) (headWidth : Nat) : List Byte :=
  match d.kind with
  | .row _ => rowBytes d.main (headWidth / 8)
  | .padded n => List.replicate (n * (headWidth / 8)) 0#8

/-- A label's signature fed at the end of a delivery, while it is PRINTING (R108, R115). -/
def LabelEntry.feed (bytes : List Byte) (l : LabelEntry) : LabelEntry :=
  if l.printStatus = .printing then { l with signature := crcFeed l.signature bytes } else l

/-- Step 4 of R108, with no delivery in flight: a pending padded delivery of the same label begins;
otherwise a PRINTING label whose rows are all sent or padded ends OK (R121). -/
def State.afterDelivery (s : State) (ringIndex : Half) : State :=
  let ending :=
    match s.findLabel ringIndex with
    | some l =>
      if l.printStatus = .printing ∧ l.rowsSent + l.rowsPadded = l.length then
        s.endLabel ringIndex .ok noObject
      else s
    | none => s
  match s.head.pendingPad with
  | some q =>
    if q.label = ringIndex then
      s.setHead { s.head with
        delivery := some (paddedDelivery ringIndex q.rows), pendingPad := none }
    else ending
  | none => ending

/-- A label's passed buffers freed at the end of a delivery (R67, step 3 of R108). -/
def State.freeDelivered (s : State) (ringIndex : Half) : State :=
  match s.findLabel ringIndex with
  | some l => s.freePassed ringIndex l.cursor
  | none => s

/-- The end of a delivery (R108). -/
def State.endDelivery (s : State) (p : SetupParams) (d : Delivery) : State :=
  let h := s.head.history d
  (((s.setHead { s.head with delivery := none, h1 := h.1, h2 := h.2 }).updateLabel d.label
    (LabelEntry.feed (d.signatureBytes p.headWidth))).freeDelivered d.label).afterDelivery d.label

/-- Whether a delivery has a boost phase (R107, R111). -/
def Delivery.boosted (d : Delivery) (p : SetupParams) : Bool :=
  decide (0 < p.burnBoost ∧ d.boost ≠ Row.paper)

/-- The end of BURN_MAIN: the boost phase, shifted and latched within the step, or the delivery's end
(R106, R107). -/
def State.endBurnMain (s : State) (p : SetupParams) (d : Delivery) : State :=
  if d.boosted p then
    s.setHead { s.head with delivery := some { d with phase := .boostBurn } }
  else s.endDelivery p d

/-- BURN_MAIN_END (R106). -/
def execBurnMainEnd (s : State) : Host.Outcome State Fault Refusal :=
  s.act fun s =>
    match s.engine.params, s.head.delivery with
    | some p, some d =>
      if s.working ∧ (d.phase = .mainShift ∨ d.phase = .mainBurn) then s.endBurnMain p d else s
    | _, _ => s

/-- BURN_BOOST_END (R107). -/
def execBurnBoostEnd (s : State) : Host.Outcome State Fault Refusal :=
  s.act fun s =>
    match s.engine.params, s.head.delivery with
    | some p, some d =>
      if s.working ∧ (d.phase = .boostShift ∨ d.phase = .boostBurn) then s.endDelivery p d else s
    | _, _ => s

/-! ### Leaving WAITING and the list (R97, R122) -/

/-- A label as it leaves WAITING (R97). -/
def LabelEntry.leaveWaiting (l : LabelEntry) : LabelEntry :=
  { l with steps := 0, printStatus := if l.align then .aligning else .printing }

/-- The head-current label leaves WAITING: the history is cleared (R97). -/
def State.startHead (s : State) (l : LabelEntry) : State :=
  (s.setHead { s.head with h1 := Row.paper, h2 := Row.paper }).updateLabel l.ringIndex
    LabelEntry.leaveWaiting

/-- LEAVE_WAITING: with no row delivery in flight and none pending (R97). -/
def execLeaveWaiting (s : State) : Host.Outcome State Fault Refusal :=
  s.act fun s =>
    match headCurrent s.labels with
    | some l =>
      if s.working ∧ l.printStatus = .waiting ∧ s.head.delivery = none ∧ s.head.pendingPad = none
      then s.startHead l
      else s
    | none => s

/-- A label that leaves the list: ENDED, and RENDERED or CUT (R122). -/
def LabelEntry.atRest (l : LabelEntry) : Bool :=
  decide (l.printStatus = .ended ∧ (l.renderStatus = .rendered ∨ l.renderStatus = .cut))

/-- A label's removal, its retire entry marked finished (R122). -/
def State.removeLabel (s : State) (l : LabelEntry) : State :=
  (s.finishRetire .print l.ringIndex l.results).setLabels (s.labels.eraseP LabelEntry.atRest)

/-- LABEL_LEAVES_LIST: the first label of the list that is at rest (R122, log 17). -/
def execLabelLeavesList (s : State) : Host.Outcome State Fault Refusal :=
  s.act fun s =>
    match s.labels.find? LabelEntry.atRest with
    | some l => if s.working then s.removeLabel l else s
    | none => s

end Sys2Proof.Machine
end

