-- ==== Sys2Proof/Machine/Rings.lean ====
section
/-! DEFINITION. The meanings of the ring commands (chapters 5 and 8): aborts and flushes, ring resets,
descriptor fetches, held labels, and state-record loads. -/

namespace Sys2Proof.Machine

/-! ### Aborts (R120, R134, R160) -/

/-- A STATE descriptor whose load is in flight ended by ABORT_x (R92). -/
def State.abortStateLoad (s : State) (r : Ring) : State :=
  match s.loads.get r with
  | some ld =>
    match ld.job with
    | .state _ => s.setLoad r (some { ld with aborted := true })
    | .label _ | .image => s
  | none => s

/-- A held LABEL taken as FLUSHED when its ring is FLUSHING (R151, R160). -/
def State.flushHeld (s : State) (r : Ring) : State :=
  match (s.rings.get r).state, (s.rings.get r).take with
  | .flushing _, .held d => s.takeFlushed r d
  | _, _ => s

/-- ABORT_x at the queue manager (Table 8-10): in RUNNING, an ACTIVE ring with descriptors untaken
and a FLUSHING ring flush up to the producer index; otherwise nothing changes. -/
def State.beginFlush (s : State) (r : Ring) : State :=
  let x := s.rings.get r
  if s.engine.state = .running then
    match x.state with
    | .active =>
      if 0 < x.posted then (s.setRingState r (.flushing x.producer)).flushHeld r else s
    | .flushing _ => (s.setRingState r (.flushing x.producer)).flushHeld r
    | .faultedOverrun | .faultedFetch => s
  else s

/-- Every label ended with ABORTED (R120). -/
def State.abortLabels (s : State) : State :=
  s.labels.foldl (fun t l => t.endLabel l.ringIndex .aborted noObject) s

/-- ABORT_PRINT: refused outside RUNNING and DRAINING (R120, R160, R185). -/
def execAbortPrint (s : State) : Host.Outcome State Fault Refusal :=
  s.act fun s =>
    if s.working then (s.abortLabels.abortStateLoad .print).beginFlush .print
    else s.setCause .refused

/-- The image job's buffer freed and the job gone from flight (R133, R134). -/
def State.dropImage (s : State) (i : BufferId) : State := (s.freeBand i).imageLeaves

/-- The image job ended with ABORTED according to its phase (Table 7-4). -/
def State.abortImageJob (s : State) : State :=
  match s.image with
  | none => s
  | some j =>
    match j.report.status with
    | some _ => s
    | none =>
      let t := s.endImage .aborted noObject
      match j.phase with
      | .loading | .rendering | .ending => t
      | .requesting => t.imageLeaves
      | .writing =>
        match j.write, j.buffer with
        | none, some i => t.dropImage i
        | none, none => t.imageLeaves
        | some _, _ => t

/-- ABORT_IMAGE: refused outside RUNNING and DRAINING (R134, R160, R185). -/
def execAbortImage (s : State) : Host.Outcome State Fault Refusal :=
  s.act fun s =>
    if s.working then (s.abortImageJob.abortStateLoad .image).beginFlush .image
    else s.setCause .refused

/-! ### Ring reset (R164) -/

/-- An accepted ring reset (R164): untaken descriptors dropped, state ACTIVE, a fetch in flight to be
discarded, render state at its reset values. -/
def State.resetRing (s : State) (r : Ring) : State :=
  let t := s.discardTake r
  (t.setRing r { t.rings.get r with
    consumer := (t.rings.get r).producer, state := .active }).setRenderState r RenderState.initial

/-- A ring reset accepted in RUNNING with an empty retire queue, else refused (R164). -/
def State.tryResetRing (s : State) (r : Ring) : State :=
  if s.engine.state = .running ∧ s.completion.retire.get r = [] then s.resetRing r
  else s.setCause .refused

/-- RESET_PRINT_RING (R164). -/
def execResetPrintRing (s : State) : Host.Outcome State Fault Refusal :=
  s.act fun s => s.tryResetRing .print

/-- RESET_IMAGE_RING (R164). -/
def execResetImageRing (s : State) : Host.Outcome State Fault Refusal :=
  s.act fun s => s.tryResetRing .image

/-! ### Descriptor fetches (R147 to R152) -/

/-- The reservation turn passed on, as a contested grant does (R169). -/
def State.passReservationTurn (s : State) : State :=
  s.setCompletion { s.completion with reservationTurn := s.completion.reservationTurn.other }

/-- A descriptor fetch begun: a slot reserved and the read of the descriptor at the consumer index
issued (R147). -/
def State.beginFetch (s : State) (p : SetupParams) (r : Ring) : State :=
  s.reserveSlot.setTake r (.fetch (descriptorAddress p r (s.rings.get r).consumer) false)

/-- DESCRIPTOR_FETCH_START: begins when the completion unit grants the ring a slot (R145 to R147,
R169). -/
def execDescriptorFetchStart (ring : Ring) (s : State) : Host.Outcome State Fault Refusal :=
  s.act fun s =>
    match s.engine.params with
    | none => s
    | some p =>
      if s.slotGranted p ring then
        if s.slotContested p then s.passReservationTurn.beginFetch p ring else s.beginFetch p ring
      else s

/-- A fetch ended without a take: its reservation is released (R148). -/
def State.dropFetch (s : State) (r : Ring) : State := (s.setTake r .none).releaseSlot

/-- A descriptor of an ACTIVE ring taken as its checks say, or held (R150 to R152). -/
def State.takeChecked (s : State) (r : Ring) (d : BitVec 256) : State :=
  match checkDescriptor r d with
  | .badKind => s.takeFinished r d .badKind
  | .badDescriptor => s.takeFinished r d .badDescriptor
  | .valid (.label f) => if s.labels.length < 4 then s.takeLabel d f else s.setTake r (.held d)
  | .valid (.image f) => s.takeImage d f
  | .valid (.state address) => s.takeStateDescriptor r d address
  | .valid .marker => s.takeFinished r d .ok

/-- Whether the data of a fetch that ends are discarded with no check and no fault (R148): marked so,
or the engine has left RUNNING, or the ring is FAULTED. -/
def State.fetchDiscarded (s : State) (r : Ring) (marked : Bool) : Bool :=
  marked || decide (s.engine.state ≠ .running) || (s.rings.get r).state.faulted

/-- Whether the bytes of a fetch find no descriptor that may be taken: a producer write has moved back
over it, so that it is no longer untaken (R141), or a fetch begun in FLUSHING ends in ACTIVE with the
render side busy, where no descriptor is taken (R88, R126). DEDUCED (log 12). -/
def State.fetchStale (s : State) (r : Ring) : Bool :=
  decide ((s.rings.get r).posted = 0) ||
    (decide ((s.rings.get r).state = .active) && !s.sideIdle r)

/-- The end of a descriptor fetch (R148 to R150). -/
def State.endFetch (s : State) (r : Ring) (marked : Bool) (result : BusRead (BitVec 256)) : State :=
  if s.fetchDiscarded r marked then s.dropFetch r
  else
    match result with
    | .busError => (s.dropFetch r).faultRing r .faultedFetch
    | .data d =>
      if s.fetchStale r then s.dropFetch r
      else
        match (s.rings.get r).state with
        | .flushing _ => s.takeFlushed r d
        | .active | .faultedOverrun | .faultedFetch => s.takeChecked r d

/-- DESCRIPTOR_FETCH_END (R148 to R150). In HALTED the transaction is a discarded one (R140,
R198). -/
def execDescriptorFetchEnd (ring : Ring) (result : BusRead (BitVec 256)) (s : State) :
    Host.Outcome State Fault Refusal :=
  s.act fun s =>
    match (s.rings.get ring).take with
    | .fetch _ marked => if s.engine.state = .halted then s else s.endFetch ring marked result
    | .none | .held _ => s

/-- HELD_LABEL_TAKE: taken from its kept bytes once the list is below 4 entries and the engine
RUNNING (R151). -/
def execHeldLabelTake (s : State) : Host.Outcome State Fault Refusal :=
  s.act fun s =>
    match s.rings.print.take with
    | .held d =>
      if s.engine.state = .running ∧ s.labels.length < 4 ∧ s.rings.print.state = .active ∧
          0 < s.rings.print.posted then s.takeLabel d (readLabelFields d)
      else s
    | .none | .fetch _ _ => s

/-! ### State-record loads (R84 to R92) -/

/-- Whether a load's job has ended, so that its data are discarded (R92). -/
def State.loadDiscarded (s : State) (ld : StateLoad) : Bool :=
  match ld.job with
  | .label i =>
    match s.findLabel i with
    | some l => decide (l.printStatus = .ended)
    | none => true
  | .image =>
    match s.image with
    | some j => j.report.status.isSome
    | none => true
  | .state _ => ld.aborted

/-- The end of a load whose data are discarded (R92, R98). -/
def State.loadDropped (s : State) (r : Ring) (ld : StateLoad) : State :=
  match ld.job with
  | .label i => s.setRenderStatus i .cut
  | .image => s.imageLeaves
  | .state i => s.finishRetire r i (plainResults .aborted)

/-- The end of a failed load (R87). -/
def State.loadFailed (s : State) (r : Ring) (ld : StateLoad) (st : Status) : State :=
  match ld.job with
  | .label i => (s.endLabel i st noObject).setRenderStatus i .cut
  | .image => (s.endImage st noObject).imageLeaves
  | .state i => s.finishRetire r i (plainResults st)

/-- The end of a load with a valid record: the present groups applied (R86), and the job goes on
(R89 to R91). -/
def State.loadApplied (s : State) (r : Ring) (ld : StateLoad) (d : BitVec 384) : State :=
  let t := s.setRenderState r (applyStateRecord d (s.renderStates.get r))
  match ld.job with
  | .label i =>
    (t.setRenderStatus i .rendering).setUpWalker .print (.label i) ld.listAddress ld.objectCount
  | .image =>
    (t.updateImage fun j => { j with phase := .requesting }).setUpWalker .image .image
      ld.listAddress ld.objectCount
  | .state i => t.finishRetire r i (plainResults .ok)

/-- The end of a state-record load (R84). -/
def State.endLoad (s : State) (r : Ring) (ld : StateLoad) (result : BusRead (BitVec 384)) : State :=
  let t := s.setLoad r none
  if s.loadDiscarded ld then t.loadDropped r ld
  else
    match result with
    | .busError => t.loadFailed r ld .fetchError
    | .data d => if stateRecordValid d then t.loadApplied r ld d else t.loadFailed r ld .stateFault

/-- STATE_RECORD_LOAD_END (R84 to R92). In HALTED the transaction is a discarded one (R93, R198). -/
def execStateRecordLoadEnd (ring : Ring) (result : BusRead (BitVec 384)) (s : State) :
    Host.Outcome State Fault Refusal :=
  s.act fun s =>
    match s.loads.get ring with
    | some ld => if s.working then s.endLoad ring ld result else s
    | none => s

end Sys2Proof.Machine
end

