-- ==== Sys2Proof/Machine/Walker.lean ====
section
/-! DEFINITION. The band render on the machine's state: the object walker's admission (R22 to R27),
the painting step with its reads and faults (R36 to R38, R57), and what a cut leaves (R76). -/

namespace Sys2Proof.Machine

/-- The grid of a job: columns and rows (R1). -/
def State.gridOf (s : State) (p : SetupParams) (o : Owner) : Nat × Nat :=
  match o with
  | .label i =>
    match s.findLabel i with
    | some l => (p.headWidth, l.length)
    | none => (0, 0)
  | .image =>
    match s.image with
    | some j => (j.width, j.height)
    | none => (0, 0)

/-- What the painting of a band reads (R6, R75). -/
def State.paintEnv (s : State) (p : SetupParams) (r : RenderRecord) : PaintEnv where
  rs := s.renderStates.get r.side
  columns := (s.gridOf p r.job).1
  gridRows := (s.gridOf p r.job).2
  first := r.first
  last := r.last

/-- A band render's job ended by a fault of the render at a list index: the point of the fault is a
boundary, and the render is to be cut there (R22, R27, R37, R78). -/
def State.faultRender (s : State) (r : RenderRecord) (st : Status) (index : Nat) : State :=
  (s.setRender (some { r with read := .none })).endJob r.job st (BitVec.ofNat 16 index)

/-- The warnings of a canvas gained by a job (R39). -/
def JobReport.gain (c : Canvas) (x : JobReport) : JobReport :=
  { x with
    warnings :=
      { x.warnings with
        shortSource := x.warnings.shortSource || c.shortSource
        glyphMissing := x.warnings.glyphMissing || c.glyphMissing } }

/-- A canvas put back: the buffer's rows and the job's warnings. -/
def State.keepCanvas (s : State) (r : RenderRecord) (c : Canvas) : State :=
  (s.setBand r.buffer { s.bands.get r.buffer with rows := c.rows }).updateReport r.job
    (JobReport.gain c)

/-- The list index of the entry at a place of a table. -/
def entryIndex (table : List TableEntry) (place : Nat) : Nat :=
  match table[place]? with
  | some e => e.index
  | none => 0

/-- The outcome of painting put into the state (R36, R57): all entries painted, and the render stands
before RETIRE; or a read of object data is issued; or the job ends with OBJECT_FAULT. -/
def State.applyPainting (s : State) (r : RenderRecord) (t : TableResult) : State :=
  match t with
  | .painted table c =>
    ((s.setTable r.side table).keepCanvas r c).setRender
      (some { r with step := .retire, entry := table.length, read := .none })
  | .waits table place c address length work =>
    ((s.setTable r.side table).keepCanvas r c).setRender
      (some { r with step := .paint, entry := place, read := .object address length work })
  | .objectFault table place c =>
    ((s.setTable r.side table).keepCanvas r c).faultRender
      { r with step := .paint, entry := place } .objectFault (entryIndex table place)

/-- The canvas a band render paints on: its buffer's rows. -/
def State.canvas (s : State) (r : RenderRecord) : Canvas :=
  ⟨(s.bands.get r.buffer).rows, false, false⟩

/-- The PAINT step from its start (R75). -/
def State.startPaint (s : State) (p : SetupParams) (r : RenderRecord) : State :=
  s.applyPainting r ((s.paintEnv p r).paintTable (s.tables.get r.side) (s.canvas r))

/-- Admission goes on with no object pending (R22, R24): the list is ended, and painting begins, or
the next record's fetch is issued. -/
def State.nextObject (s : State) (p : SetupParams) (r : RenderRecord) : State :=
  let w := s.walkers.get r.side
  if w.nextIndex < w.objectCount then
    s.setRender (some { r with
      step := .admission
      read := .record (w.listAddress + BitVec.ofNat 32 (32 * w.nextIndex)) })
  else s.startPaint p r

/-- The count of objects admitted raised, and LATE_OBJECT gained when `late` (R25, R26, R32). -/
def JobReport.admission (late : Bool) (x : JobReport) : JobReport :=
  { x with
    admitted := x.admitted + 1
    warnings := { x.warnings with lateObject := x.warnings.lateObject || late } }

/-- The table entry of an object, its op resolved (R8, R28). -/
def PendingObject.entry (o : PendingObject) (rs : RenderState) : TableEntry where
  index := o.index
  fields := o.fields
  op := o.fields.op.getD rs.defaultOp
  top := o.top
  bottom := o.bottom
  progress := startingProgress o.fields.body

/-- A side's pending object changed. -/
def State.setPendingObject (s : State) (side : Ring) (o : Option PendingObject) : State :=
  s.setWalker side { s.walkers.get side with pending := o }

/-- Entries a table holds (R26). -/
def tableSize : Nat := 32

/-- One object considered for the band (R24 to R27): below the band it becomes or stays pending and
painting begins; late it is counted; else it is entered, or ends the job with TABLE_FULL. -/
def State.considerObject (s : State) (p : SetupParams) (r : RenderRecord) (o : PendingObject) :
    State :=
  let table := s.tables.get r.side
  if (r.last : Int) + 1 ≤ o.top then (s.setPendingObject r.side (some o)).startPaint p r
  else if r.band ≠ 0 ∧ o.bottom ≤ (r.first : Int) - 1 then
    ((s.setPendingObject r.side none).updateReport r.job (JobReport.admission true)).nextObject p r
  else if table.length < tableSize then
    (((s.setPendingObject r.side none).setTable r.side
      (table ++ [o.entry (s.renderStates.get r.side)])).updateReport r.job
        (JobReport.admission (decide (r.band ≠ 0 ∧ o.top < (r.first : Int))))).nextObject p r
  else (s.setPendingObject r.side none).faultRender { r with step := .admission } .tableFull o.index

/-- Admission from the start of a band render (R24). -/
def State.startAdmission (s : State) (p : SetupParams) (r : RenderRecord) : State :=
  match (s.walkers.get r.side).pending with
  | some o => s.considerObject p r o
  | none => s.nextObject p r

/-- A record fetch that ended with its 32 bytes: the checks, the extent, and the object considered
(R16 to R19, R22). -/
def State.recordRead (s : State) (p : SetupParams) (r : RenderRecord) (d : BitVec 256) : State :=
  let w := s.walkers.get r.side
  let rs := s.renderStates.get r.side
  match readObject rs d with
  | none => s.faultRender r .objectFault w.nextIndex
  | some f =>
    (s.setWalker r.side { w with nextIndex := w.nextIndex + 1 }).considerObject p
      { r with read := .none } ⟨w.nextIndex, f, (extent rs f).1, (extent rs f).2⟩

/-! ### Arbitration (R71 to R73) -/

/-- The render-current label: the entry that is LOADING or RENDERING (R96). -/
def State.renderCurrent (s : State) : Option LabelEntry := s.labels.find? LabelEntry.busy

/-- The label the print side requests a band for (R71). -/
def State.printRequest (s : State) (p : SetupParams) : Option LabelEntry :=
  match s.renderCurrent with
  | some l =>
    if l.renderStatus = .rendering ∧ l.printStatus ≠ .ended ∧
        l.nextBand < bandCount l.length p.bandHeight ∧ 1 ≤ s.bands.freeCount then some l
    else none
  | none => none

/-- The image job the image side requests a band for, with the image reserve (R72). -/
def State.imageRequest (s : State) (p : SetupParams) : Option ImageJob :=
  match s.image with
  | some j =>
    if j.phase = .requesting ∧ j.report.status = none ∧
        j.nextBand < bandCount j.height p.bandHeight ∧ 1 ≤ s.bands.freeCount ∧
        (2 ≤ s.bands.freeCount ∨ s.labels = []) then some j
    else none
  | none => none

/-- The render record of a granted band, its buffer cleared (R12, R63, R75). -/
def grantRecord (side : Ring) (o : Owner) (i : BufferId) (k rows height : Nat) : RenderRecord where
  side := side
  job := o
  buffer := i
  band := k
  first := k * height
  last := min ((k + 1) * height) rows - 1
  step := .clear
  entry := 0
  cutPending := false
  read := .none

/-- A FREE buffer claimed for a band and cleared to paper (R63). -/
def State.claimBand (s : State) (o : Owner) (i : BufferId) (k rows height : Nat) : State :=
  s.setBand i ⟨.filling, some o, k, k * height, min height (rows - k * height), paperRows⟩

/-- A grant up to the boundary after the clear: the claim, and the render record in CLEAR (R63, R73,
R75). -/
def State.beginRender (s : State) (p : SetupParams) (side : Ring) (o : Owner) (i : BufferId)
    (k rows : Nat) : State :=
  (s.claimBand o i k rows p.bandHeight).setRender (some (grantRecord side o i k rows p.bandHeight))

end Sys2Proof.Machine
end

