-- ==== Sys2Proof/Machine/Render.lean ====
section
/-! DEFINITION. The meanings of the rendering commands (chapters 2 to 4) and of the image writeback
(chapter 7). -/

namespace Sys2Proof.Machine

/-! ### The grant (R73) -/

/-- The image job claiming a buffer for its next band (R127, R128). -/
def ImageJob.claim (i : BufferId) (j : ImageJob) : ImageJob :=
  { j with phase := .rendering, buffer := some i }

/-- A command that can end the job of a band being granted, run; any other ends no such job and is
left out. -/
def runJobEnd (c : Instr) (s : State) : Host.Outcome State Fault Refusal :=
  match c with
  | .abortPrint => execAbortPrint s
  | .abortImage => execAbortImage s
  | .rowStep => execRowStep s
  | .burnMainEnd => execBurnMainEnd s
  | .burnBoostEnd => execBurnBoostEnd s
  | _ => .next s

/-- Whether a state's band render is to be cut. -/
def State.renderCut (s : State) : Bool :=
  match s.render with
  | some r => r.cutPending
  | none => false

/-- Whether an end of the job whose render stands after its clear comes together with the grant: the
command that waits next ends it (R74, log 33). -/
def State.endWaits (s : State) : Bool :=
  match s.pending with
  | [] => false
  | c :: rest =>
    match runJobEnd c (s.settle.setPending rest) with
    | .next t => t.renderCut
    | .fault _ | .refused _ => false

/-- A grant (R63, R73 to R76): the render begins, and goes on into admission up to its first read; with
an end of its job taken right after the grant it stands at the boundary after the clear, where it is
cut. -/
def State.grant (s : State) (p : SetupParams) (side : Ring) (o : Owner) (i : BufferId)
    (k rows : Nat) : State :=
  let t := s.beginRender p side o i k rows
  if t.endWaits then t else t.startAdmission p (grantRecord side o i k rows p.bandHeight)

/-- A grant to the side that has it: print first (R73). -/
def State.arbitrate (s : State) (p : SetupParams) : State :=
  match s.bands.lowestFree with
  | none => s
  | some i =>
    match s.printRequest p with
    | some l => s.grant p .print (.label l.ringIndex) i l.nextBand l.length
    | none =>
      match s.imageRequest p with
      | some j => (s.updateImage (ImageJob.claim i)).grant p .image .image i j.nextBand j.height
      | none => s

/-- RASTERIZER_GRANT: the arbiter grants the free rasterizer in RUNNING and DRAINING (R73, R79). -/
def execRasterizerGrant (s : State) : Host.Outcome State Fault Refusal :=
  s.act fun s =>
    match s.engine.params with
    | none => s
    | some p => if s.working ∧ s.render = none then s.arbitrate p else s

/-! ### Ends of reads (R22, R23, R37, R38) -/

/-- A render whose job has ended at the end of its read: the data are discarded, and it stands at an
object boundary (R23, R38, R76). -/
def State.discardRead (s : State) (r : RenderRecord) : State :=
  s.setRender (some { r with read := .none })

/-- The end of a record fetch (R22, R23). -/
def State.endRecordFetch (s : State) (p : SetupParams) (r : RenderRecord)
    (result : BusRead (BitVec 256)) : State :=
  if r.cutPending then s.discardRead r
  else
    match result with
    | .busError => s.faultRender r .fetchError (s.walkers.get r.side).nextIndex
    | .data d => s.recordRead p r d

/-- RECORD_FETCH_END (R22, R23). In HALTED the transaction is a discarded one (R79, R198). -/
def execRecordFetchEnd (result : BusRead (BitVec 256)) (s : State) :
    Host.Outcome State Fault Refusal :=
  s.act fun s =>
    match s.engine.params, s.render with
    | some p, some r =>
      match r.read with
      | .record _ => if s.working then s.endRecordFetch p r result else s
      | .none | .object _ _ _ => s
    | _, _ => s

/-- Whether the data of a read are the number of bytes asked for (log 6). -/
def answersRead (length : Nat) : BusRead (List Byte) → Bool
  | .busError => true
  | .data bytes => decide (bytes.length = length)

/-- The end of a read of object data (R37, R38). -/
def State.endObjectRead (s : State) (p : SetupParams) (r : RenderRecord) (work : PaintWork)
    (result : BusRead (List Byte)) : State :=
  if r.cutPending then s.discardRead r
  else
    match result with
    | .busError => s.faultRender r .fetchError (entryIndex (s.tables.get r.side) r.entry)
    | .data bytes =>
      s.applyPainting r
        ((s.paintEnv p r).resumeTable (s.tables.get r.side) r.entry work bytes (s.canvas r))

/-- OBJECT_DATA_READ_END (R37, R38). In HALTED the transaction is a discarded one (R79, R198). -/
def execObjectDataReadEnd (result : BusRead (List Byte)) (s : State) :
    Host.Outcome State Fault Refusal :=
  s.act fun s =>
    match s.engine.params, s.render with
    | some p, some r =>
      match r.read with
      | .object _ length work =>
        if s.working ∧ answersRead length result then s.endObjectRead p r work result else s
      | .none | .record _ => s
    | _, _ => s

/-! ### The end and the cut of a band render (R64, R65, R75, R76) -/

/-- RETIRE: every entry whose bottom row is at or above the band's last row is removed (R30). -/
def retire (last : Nat) (table : List TableEntry) : List TableEntry :=
  table.filter fun e => decide ((last : Int) < e.bottom)

/-- The buffer of a label's rendered band: FREE when all its rows lie above the row cursor, else
READY at the queue's tail (R64). -/
def State.placePrintBand (s : State) (r : RenderRecord) (cursor : Nat) : State :=
  if r.last < cursor then s.freeBand r.buffer
  else
    (s.setBand r.buffer { s.bands.get r.buffer with state := .ready }).setPrintQueue
      (s.printQueue ++ [r.buffer])

/-- The end of a label's band render (R64). -/
def State.endPrintRender (s : State) (p : SetupParams) (r : RenderRecord) (l : LabelEntry) : State :=
  let t := ((s.placePrintBand r l.cursor).setRender none).updateLabel l.ringIndex fun l =>
    { l with nextBand := l.nextBand + 1 }
  if bandCount l.length p.bandHeight ≤ l.nextBand + 1 then
    (t.setRenderStatus l.ringIndex .rendered).emptyWalker .print
  else t

/-- The row write of a grid row of the job's buffer (R129, R130). -/
def ImageJob.rowWrite (j : ImageJob) (b : BandBuffer) (y : Nat) : RowWrite where
  row := y
  address := j.destination + BitVec.ofNat 32 (y * j.stride)
  bytes := rowBytes (firstDots j.width (b.rows.getD (y - b.first) Row.paper)) (ceilBytes j.width)

/-- The end of the image's band render: the buffer becomes DRAINING and the write of its first row is
issued (R65, R128, R129). -/
def State.endImageRender (s : State) (p : SetupParams) (r : RenderRecord) (j : ImageJob) : State :=
  let b := s.bands.get r.buffer
  let t := ((s.setBand r.buffer { b with state := .draining }).setRender none).setImage
    (some { j with
      phase := .writing
      nextBand := j.nextBand + 1
      write := some (j.rowWrite b b.first) })
  if bandCount j.height p.bandHeight ≤ j.nextBand + 1 then t.emptyWalker .image else t

/-- The end of a band render after RETIRE (R75). -/
def State.endRender (s : State) (p : SetupParams) (r : RenderRecord) : State :=
  let t := s.setTable r.side (retire r.last (s.tables.get r.side))
  match r.job with
  | .label i =>
    match s.findLabel i with
    | some l => t.endPrintRender p r l
    | none => s
  | .image =>
    match s.image with
    | some j => t.endImageRender p r j
    | none => s

/-- BAND_RENDER_END: the painting is done and no end of the job has reached the render (R75, R77). -/
def execBandRenderEnd (s : State) : Host.Outcome State Fault Refusal :=
  s.act fun s =>
    match s.engine.params, s.render with
    | some p, some r =>
      if s.working ∧ r.step = .retire ∧ r.cutPending = false then s.endRender p r else s
    | _, _ => s

/-- The cut of a band render at a boundary: the buffer FREE, the record discarded, the context and
table emptied (R76); the label becomes CUT (R98), the image job leaves flight (R127). -/
def State.cutRender (s : State) (r : RenderRecord) : State :=
  let t := ((s.freeBand r.buffer).setRender none).emptyWalker r.side
  match r.job with
  | .label i => t.setRenderStatus i .cut
  | .image => t.imageLeaves

/-- BAND_RENDER_CUT: at the first boundary after the job's end, with no read in flight (R76). -/
def execBandRenderCut (s : State) : Host.Outcome State Fault Refusal :=
  s.act fun s =>
    match s.render with
    | some r => if s.working ∧ r.cutPending ∧ r.read = .none then s.cutRender r else s
    | none => s

/-! ### Writeback (R129 to R134) -/

/-- A row write that ended without error: the signature is fed, and the next row is issued, or the
band is written and the job goes on or ends OK (R131). -/
def State.rowWritten (s : State) (p : SetupParams) (j : ImageJob) (i : BufferId) (w : RowWrite) :
    State :=
  let b := s.bands.get i
  let fed := { j with signature := crcFeed j.signature w.bytes }
  if w.row + 1 < b.first + b.count then
    s.setImage (some { fed with write := some (j.rowWrite b (w.row + 1)) })
  else if bandCount j.height p.bandHeight ≤ j.nextBand then
    ((s.setImage (some fed)).endImage .ok noObject).dropImage i
  else
    (s.setImage (some { fed with phase := .requesting, buffer := none, write := none })).freeBand i

/-- The end of a row write (R129): stopped when the job's status is set (R134), else WRITE_ERROR
(R133) or written (R131). -/
def State.endRowWrite (s : State) (p : SetupParams) (j : ImageJob) (i : BufferId) (w : RowWrite)
    (result : BusWrite) : State :=
  match j.report.status with
  | some _ => s.dropImage i
  | none =>
    match result with
    | .busError => (s.endImage .writeError noObject).dropImage i
    | .acknowledged => s.rowWritten p j i w

/-- ROW_WRITE_END (R129 to R134). In HALTED the transaction is a discarded one (R137, R198). -/
def execRowWriteEnd (result : BusWrite) (s : State) : Host.Outcome State Fault Refusal :=
  s.act fun s =>
    match s.engine.params, s.image with
    | some p, some j =>
      match j.write, j.buffer with
      | some w, some i =>
        if s.working ∧ j.phase = .writing then s.endRowWrite p j i w result else s
      | _, _ => s
    | _, _ => s

end Sys2Proof.Machine
end

