-- ==== Sys2Proof/Machine/Window.lean ====
section
/-! DEFINITION. The meanings of the register writes other than CMD (R141, R178, R181, R182, R199,
R200, R206). -/

namespace Sys2Proof.Machine

/-- SETUP_WRITE: the value with its low six bits cleared (R200). -/
def execSetupWrite (value : Word) (s : State) : Host.Outcome State Fault Refusal :=
  s.act fun s => { s with setup := value &&& ~~~0x3F#32 }

/-- A producer index stored (R141). -/
def State.storeProducer (s : State) (r : Ring) (v : Half) : State :=
  s.setRing r { s.rings.get r with producer := v }

/-- A FLUSHING ring after a producer write (Table 8-11): a producer index between the consumer index
and the boundary becomes the boundary, and at the consumer index ends the flush. -/
def State.trimFlush (s : State) (r : Ring) : State :=
  let x := s.rings.get r
  match x.state with
  | .flushing b =>
    if x.producer = x.consumer then s.setRingState r .active
    else if indexBetween x.producer x.consumer b then s.setRingState r (.flushing x.producer)
    else s
  | .active | .faultedOverrun | .faultedFetch => s

/-- An accepted producer write in RUNNING or DRAINING: stored, and checked for overrun (R141, R142,
R162). -/
def State.producerChecked (s : State) (r : Ring) (v : Half) : State :=
  match s.engine.params with
  | some p => ((s.storeProducer r v).checkOverrun p r).trimFlush r
  | none => s.storeProducer r v

/-- PRODUCER_WRITE: stored without a check in STARTING, stored and checked in RUNNING and DRAINING,
refused in STOPPED and HALTED (R141, R142). -/
def execProducerWrite (ring : Ring) (value : Word) (s : State) :
    Host.Outcome State Fault Refusal :=
  s.act fun s =>
    match s.engine.state with
    | .starting => s.storeProducer ring (lowHalf value)
    | .running | .draining => s.producerChecked ring (lowHalf value)
    | .stopped | .halted => s.setCause .refused

/-- A CREAD write checked against the old consumer index and CPOST (R178); bringing the count to 0
stops the timer (R180). -/
def State.writeCread (s : State) (v : Half) : State :=
  let c := s.completion
  if v = c.cread then s
  else if indexBetween v c.cread c.cpost then
    s.setCompletion { c with cread := v, timer := if v = c.cpost then none else c.timer }
  else s.setCause .refused

/-- CREAD_WRITE, in every engine state (R178). -/
def execCreadWrite (value : Word) (s : State) : Host.Outcome State Fault Refusal :=
  s.act fun s => s.writeCread (lowHalf value)

/-- CAUSE bits written as 1 cleared (R181), with the count examined when COMPLETION is one of them
(R179). -/
def State.writeCause (s : State) (bits : BitVec 6) : State :=
  let t := s.clearCauses bits
  if bits.getLsbD 0 then
    match s.engine.params with
    | some p => t.coalesceClear p
    | none => t
  else t

/-- CAUSE_WRITE, in every engine state (R181). -/
def execCauseWrite (value : Word) (s : State) : Host.Outcome State Fault Refusal :=
  s.act fun s => s.writeCause (lowSix value)

/-- IEN_WRITE, in every engine state (R182). -/
def execIenWrite (value : Word) (s : State) : Host.Outcome State Fault Refusal :=
  s.act fun s => { s with ien := lowSix value }

/-- REGISTER_WRITE_IGNORED: nothing changes and no cause is set (R199, R206). An access that reaches
a register is another row's command. -/
def execRegisterWriteIgnored (offset : BitVec 6) (width : AccessWidth) (value : Word) (s : State) :
    Host.Outcome State Fault Refusal :=
  if (Instr.registerWriteIgnored offset width value).wellFormed then s.act fun s => s
  else .refused .illFormed

end Sys2Proof.Machine
end

