-- ==== Sys2Proof/Machine/Dispatch.lean ====
section
/-! DEFINITION. One arm per row of spec/opcode_table.json, in the table's order: the meaning of each
command. -/

namespace Sys2Proof.Machine

/-- The effect of a command on everything but the queue. -/
def exec (i : Instr) (s : State) : Host.Outcome State Fault Refusal :=
  match i with
  | .start => Sys2Proof.Machine.execStart s
  | .stop => Sys2Proof.Machine.execStop s
  | .abortPrint => Sys2Proof.Machine.execAbortPrint s
  | .abortImage => Sys2Proof.Machine.execAbortImage s
  | .resetPrintRing => Sys2Proof.Machine.execResetPrintRing s
  | .resetImageRing => Sys2Proof.Machine.execResetImageRing s
  | .engineReset => Sys2Proof.Machine.execEngineReset s
  | .cmdUndefinedCode value => Sys2Proof.Machine.execCmdUndefinedCode value s
  | .setupWrite value => Sys2Proof.Machine.execSetupWrite value s
  | .producerWrite ring value => Sys2Proof.Machine.execProducerWrite ring value s
  | .creadWrite value => Sys2Proof.Machine.execCreadWrite value s
  | .causeWrite value => Sys2Proof.Machine.execCauseWrite value s
  | .ienWrite value => Sys2Proof.Machine.execIenWrite value s
  | .registerWriteIgnored offset width value => Sys2Proof.Machine.execRegisterWriteIgnored offset width value s
  | .resetN => Sys2Proof.Machine.execResetN s
  | .resetNDeasserted => Sys2Proof.Machine.execResetNDeasserted s
  | .rowStep => Sys2Proof.Machine.execRowStep s
  | .mark => Sys2Proof.Machine.execMark s
  | .coalescingTimerExpiry => Sys2Proof.Machine.execCoalescingTimerExpiry s
  | .burnMainEnd => Sys2Proof.Machine.execBurnMainEnd s
  | .burnBoostEnd => Sys2Proof.Machine.execBurnBoostEnd s
  | .setupFetchStart => Sys2Proof.Machine.execSetupFetchStart s
  | .setupFetchEnd result => Sys2Proof.Machine.execSetupFetchEnd result s
  | .descriptorFetchStart ring => Sys2Proof.Machine.execDescriptorFetchStart ring s
  | .descriptorFetchEnd ring result => Sys2Proof.Machine.execDescriptorFetchEnd ring result s
  | .heldLabelTake => Sys2Proof.Machine.execHeldLabelTake s
  | .stateRecordLoadEnd ring result => Sys2Proof.Machine.execStateRecordLoadEnd ring result s
  | .rasterizerGrant => Sys2Proof.Machine.execRasterizerGrant s
  | .recordFetchEnd result => Sys2Proof.Machine.execRecordFetchEnd result s
  | .objectDataReadEnd result => Sys2Proof.Machine.execObjectDataReadEnd result s
  | .bandRenderEnd => Sys2Proof.Machine.execBandRenderEnd s
  | .bandRenderCut => Sys2Proof.Machine.execBandRenderCut s
  | .rowWriteEnd result => Sys2Proof.Machine.execRowWriteEnd result s
  | .leaveWaiting => Sys2Proof.Machine.execLeaveWaiting s
  | .labelLeavesList => Sys2Proof.Machine.execLabelLeavesList s
  | .completionWriteStart => Sys2Proof.Machine.execCompletionWriteStart s
  | .completionWriteEnd result => Sys2Proof.Machine.execCompletionWriteEnd result s
  | .discardedTransactionEnd => Sys2Proof.Machine.execDiscardedTransactionEnd s
  | .drainToStopped => Sys2Proof.Machine.execDrainToStopped s

end Sys2Proof.Machine
end

