-- ==== Sys2Proof/Safety.lean ====
section
/-! DEFINITION. What always holds of the block between commands, in the terms the statements use. Each
is kept by every step from every state that has it, and holds at reset. -/

namespace Sys2Proof.Machine

/-! ### The register window and the pins -/

/-- Every pin is at its level, or idle under RESET_N (R117, R182, R196); SETUP holds a 64-byte-aligned
address (R200). -/
def WindowSound (s : State) : Prop :=
  s.pins = (if s.resetHeld then Pins.idle else s.pinLevels) ∧ s.setup &&& 0x3F#32 = 0#32

/-! ### Completion slots and retire queues -/

/-- The reservations that a take in flight holds (R168). -/
def TakeInFlight.slots : TakeInFlight → Nat
  | .none => 0
  | .fetch _ _ | .held _ => 1

/-- The reservations of a ring: its taken descriptors not yet posted, and its take in flight. -/
def State.ringSlots (s : State) (r : Ring) : Nat :=
  (s.completion.retire.get r).length + (s.rings.get r).take.slots

/-- No slot is promised twice (R166, R168, R170): the reservation count is what the rings hold, a ring
holds at most 8, reserved and unconsumed slots fit in the completion ring, a write in flight is of a
record at the head of its queue, and outside a session nothing is held. -/
def SlotAccounting (s : State) : Prop :=
  s.completion.reserved = s.ringSlots .print + s.ringSlots .image ∧
  s.ringSlots .print ≤ 8 ∧ s.ringSlots .image ≤ 8 ∧
  (∀ w ∈ s.completion.write, s.completion.retire.get w.ring ≠ []) ∧
  (∀ p ∈ s.engine.params, ringSizeValid p.completionSize = true ∧
    s.completion.reserved + s.unconsumed ≤ p.completionSize) ∧
  (s.engine.params = none → s.completion.reserved = 0 ∧ s.unconsumed = 0) ∧
  (s.engine.state = .starting → s.engine.params = none)

/-! ### Submission rings -/

/-- A ring that is not FAULTED holds at most its size of untaken descriptors, and a flush boundary lies
beyond the consumer index and not beyond the producer index (R139, R160, R162). -/
def RingRecord.within (x : RingRecord) (size : Nat) : Prop :=
  match x.state with
  | .active => x.posted ≤ size
  | .flushing b =>
    x.posted ≤ size ∧ b ≠ x.consumer ∧ indexBetween b x.consumer x.producer = true
  | .faultedOverrun | .faultedFetch => True

/-- Both rings are within their sizes in a session, and ACTIVE outside one (R139, R140); RUNNING has setup
parameters and STARTING has none yet (R187, R190). -/
def RingsSound (s : State) : Prop :=
  (∀ p ∈ s.engine.params,
    s.rings.print.within p.ringSize.print ∧ s.rings.image.within p.ringSize.image) ∧
  (s.engine.params = none → s.rings.print.state = .active ∧ s.rings.image.state = .active) ∧
  (s.engine.state = .starting → s.engine.params = none) ∧
  (s.engine.state = .running → s.engine.params ≠ none)

/-! ### Take order and the label list -/

/-- The `n` ring indices that end just below a consumer index, oldest first. -/
def indicesBelow (consumer : Half) (n : Nat) : List Half :=
  (List.range n).map fun k => consumer - BitVec.ofNat 16 (n - k)

/-- A retire queue holds the last descriptors taken, in take order (R152, R170). -/
def TakeOrder (s : State) (r : Ring) : Prop :=
  (s.completion.retire.get r).map RetireEntry.ringIndex =
    indicesBelow (s.rings.get r).consumer (s.completion.retire.get r).length

/-- A label's rows: those sent and those padded make up the cursor, which does not pass L, and PADDED
is set exactly when a row is padded (R94, R121). -/
def LabelEntry.rowsSound (l : LabelEntry) : Prop :=
  l.rowsSent + l.rowsPadded = l.cursor ∧ l.cursor ≤ l.length ∧
    (l.report.warnings.padded = true ↔ 0 < l.rowsPadded)

/-- A ring index whose retire entry stands unfinished in the PRINT queue. -/
def State.unfinished (s : State) (i : Half) : Prop :=
  ∃ e ∈ s.completion.retire.print, e.ringIndex = i ∧ e.results = none

/-- The label list and what depends on it (R94, R121, R152, R170 to R173): both queues in take order; at
most 4 labels, told apart by ring index, each with its rows sound and its retire entry unfinished; a
STATE load in flight on the PRINT ring has an unfinished entry that is no label's; a write in flight is
of a finished record. -/
def LabelsSound (s : State) : Prop :=
  TakeOrder s .print ∧ TakeOrder s .image ∧
  s.labels.length ≤ 4 ∧ (s.labels.map LabelEntry.ringIndex).Nodup ∧
  (∀ l ∈ s.labels, l.rowsSound ∧ s.unfinished l.ringIndex) ∧
  (∀ ld ∈ s.loads.print, ∀ i, ld.job = .state i →
    s.unfinished i ∧ ∀ l ∈ s.labels, l.ringIndex ≠ i) ∧
  (∀ w ∈ s.completion.write, ∃ e rest, s.completion.retire.get w.ring = e :: rest ∧ e.results ≠ none)

/-! ### Render states, walker contexts and tables -/

/-- Every render-state value lies in its range (R81, Table 5-1). -/
def RenderState.inRange (x : RenderState) : Prop :=
  (-32768 ≤ x.originX ∧ x.originX ≤ 32767) ∧ (-32768 ≤ x.originY ∧ x.originY ≤ 32767) ∧
  (x.clipLeft ≤ 65535 ∧ x.clipTop ≤ 65535 ∧ x.clipRight ≤ 65535 ∧ x.clipBottom ≤ 65535) ∧
  (x.glyphTable.toNat % 8 = 0 ∧ x.glyphCount ≤ 4096) ∧
  (-16 ≤ x.extraSpacing ∧ x.extraSpacing ≤ 15) ∧ (1 ≤ x.strokeWidth ∧ x.strokeWidth ≤ 8)

/-- Both render states are in range. -/
def RenderStatesInRange (s : State) : Prop :=
  s.renderStates.print.inRange ∧ s.renderStates.image.inRange

/-- A side's table holds at most 32 entries in strictly increasing list index, all of them read, and
its pending object comes after them (R20, R28). -/
def TableSound (table : List TableEntry) (w : WalkerContext) : Prop :=
  table.length ≤ tableSize ∧ table.Pairwise (fun a b => a.index < b.index) ∧
  (∀ e ∈ table, e.index < w.nextIndex) ∧
  (∀ o ∈ w.pending, o.index < w.nextIndex ∧ ∀ e ∈ table, e.index < o.index)

/-- Both sides' tables are sound. -/
def TablesSound (s : State) : Prop :=
  TableSound s.tables.print s.walkers.print ∧ TableSound s.tables.image s.walkers.image

/-! ### Band buffers -/

/-- A buffer's owner fits its state: none when FREE, a label when READY or PRINTING, the image job when
DRAINING (R62). -/
def BandBuffer.ownerFits (b : BandBuffer) : Prop :=
  match b.state with
  | .free => b.owner = none
  | .filling => b.owner ≠ none
  | .ready | .printing => b.owner ≠ none ∧ b.owner ≠ some .image
  | .draining => b.owner = some .image

/-- The four buffers agree with the blocks that use them (R62, R70, R75, R127): FILLING is the band
render's buffer, the print band queue holds each READY buffer once, at most one is PRINTING, DRAINING is
the buffer of an image job that is WRITING, and an image render or load is of an image job in the phase
for it. -/
def BandsSound (s : State) : Prop :=
  (∀ i : BufferId, (s.bands.get i).ownerFits ∧
    ((s.bands.get i).state = .filling ↔ i ∈ s.render.map RenderRecord.buffer) ∧
    ((s.bands.get i).state = .ready ↔ i ∈ s.printQueue) ∧
    ((s.bands.get i).state = .draining ↔
      ∃ j ∈ s.image, j.phase = .writing ∧ j.buffer = some i)) ∧
  s.printQueue.Nodup ∧
  (∀ i j : BufferId,
    (s.bands.get i).state = .printing → (s.bands.get j).state = .printing → i = j) ∧
  (∀ r ∈ s.render, (s.bands.get r.buffer).owner = some r.job ∧
    (r.job = .image → ∃ j ∈ s.image, j.phase = .rendering ∧ j.buffer = some r.buffer)) ∧
  (∀ ld ∈ s.loads.print, ld.job ≠ .image) ∧
  (∀ ld ∈ s.loads.image, ld.job = .image → ∃ j ∈ s.image, j.phase = .loading)

/-! ### Terms of the statements -/

/-- A take in flight whose data are to be discarded: a fetch goes on to its end, a held LABEL is gone
(R148, R151). -/
def TakeInFlight.dropped : TakeInFlight → TakeInFlight
  | .none => .none
  | .fetch a _ => .fetch a true
  | .held _ => .none

/-- The reservations released when a take in flight is discarded before its end: a held LABEL's. -/
def TakeInFlight.released : TakeInFlight → Nat
  | .held _ => 1
  | .none | .fetch _ _ => 0

/-- A ring record made FAULTED(OVERRUN) (R142). -/
def RingRecord.overrun (x : RingRecord) : RingRecord :=
  { x with state := .faultedOverrun, take := x.take.dropped }

/-- A retire entry finished at the take (R152): no rows, no signature, no objects, no warnings, no fault
index. -/
def finishedEntry (ringIndex tag : Half) (kind : Byte) (st : Status) : RetireEntry :=
  ⟨ringIndex, tag, kind, some ⟨st, ⟨false, false, false, false⟩, 0, 0#16, 0, 0xFFFF#16⟩⟩

/-- The descriptor of a ring whose fetch ends with its bytes taken or checked (R148 to R150): not
discarded, in a session that is RUNNING, and, on an ACTIVE ring, with the render side idle. -/
def FetchAnswers (s : State) (r : Ring) : Prop :=
  s.engine.state = .running ∧ (∃ a, (s.rings.get r).take = .fetch a false) ∧
    (s.rings.get r).state.faulted = false ∧ (s.rings.get r).posted ≠ 0 ∧
    ((s.rings.get r).state = .active → s.sideIdle r = true)

/-- A label told apart from the others of the list by its ring index. -/
def State.onlyLabel (s : State) (l : LabelEntry) : Prop :=
  l ∈ s.labels ∧ ∀ m ∈ s.labels, m.ringIndex = l.ringIndex → m = l

/-- The label list with one label replaced. -/
def replaceLabel (labels : List LabelEntry) (old new : LabelEntry) : List LabelEntry :=
  labels.map fun l => if l.ringIndex = old.ringIndex then new else l

/-- The band buffers with some returned to FREE: state FREE, no owner, all else kept. -/
def Bands.freed (b : Bands) (sel : BandBuffer → Bool) : Bands :=
  let f (x : BandBuffer) : BandBuffer := if sel x then { x with state := .free, owner := none } else x
  ⟨f b.b0, f b.b1, f b.b2, f b.b3⟩

/-! ### What rendering comes to, written out -/

/-- What the painting of a table comes to on the machine (R36 to R39, R57, R75): the entries and the
buffer's rows as painted, the warnings gained, and the render before RETIRE, or waiting for a read of
object data, or its job ended with OBJECT_FAULT and the entry's list index. -/
def State.paintOutcome (u : State) (r : RenderRecord) (res : TableResult) : State :=
  let gain (c : Canvas) (x : JobReport) : JobReport := { x with
    warnings := { x.warnings with
      shortSource := x.warnings.shortSource || c.shortSource
      glyphMissing := x.warnings.glyphMissing || c.glyphMissing } }
  let kept (table : List TableEntry) (c : Canvas) (x : RenderRecord) : State :=
    { u.updateReport r.job (gain c) with
      tables := u.tables.set r.side table
      bands := u.bands.set r.buffer { u.bands.get r.buffer with rows := c.rows }
      render := some x }
  match res with
  | .painted table c => kept table c { r with step := .retire, entry := table.length, read := .none }
  | .waits table place c address length work =>
    kept table c { r with step := .paint, entry := place, read := .object address length work }
  | .objectFault table place c =>
    (kept table c { r with step := .paint, entry := place, read := .none }).endJob r.job .objectFault
      (match table[place]? with
        | some e => BitVec.ofNat 16 e.index
        | none => 0#16)

/-- What a render that goes into admission comes to, from the state `u` after its clear, up to its first
read (R24 to R28, R36, R75): with no object pending the next record's fetch is issued, or, the list ended,
the table is painted; an object pending from the band before is considered first. -/
def AdmissionOutcome (p : SetupParams) (r : RenderRecord) (u t : State) : Prop :=
  let w := u.walkers.get r.side
  let table := u.tables.get r.side
  let paints (v : State) (table : List TableEntry) : State := v.paintOutcome r
    ((u.paintEnv p r).paintTable table ⟨(u.bands.get r.buffer).rows, false, false⟩)
  let onward (v : State) (table : List TableEntry) : State :=
    if w.nextIndex < w.objectCount then
      { v with render := some { r with
          step := .admission
          read := .record (w.listAddress + BitVec.ofNat 32 (32 * w.nextIndex)) } }
    else paints v table
  let counted (late : Bool) (x : JobReport) : JobReport := { x with
    admitted := x.admitted + 1
    warnings := { x.warnings with lateObject := x.warnings.lateObject || late } }
  (w.pending = none → t = onward u table) ∧
  ∀ o, w.pending = some o →
    let considered : State :=
      { u with walkers := u.walkers.set r.side { w with pending := none } }
    let entry : TableEntry := ⟨o.index, o.fields,
      o.fields.op.getD (u.renderStates.get r.side).defaultOp, o.top, o.bottom,
      startingProgress o.fields.body⟩
    let reaches : Prop := o.top ≤ r.last ∧ (r.band = 0 ∨ (r.first : Int) ≤ o.bottom)
    ((r.last : Int) < o.top → t = paints u table) ∧
    (o.top ≤ r.last → 0 < r.band → o.bottom < r.first →
      t = onward (considered.updateReport r.job (counted true)) table) ∧
    (reaches → table.length < 32 →
      t = onward { considered.updateReport r.job
          (counted (decide (0 < r.band ∧ o.top < r.first))) with
        tables := u.tables.set r.side (table ++ [entry]) } (table ++ [entry])) ∧
    (reaches → 32 ≤ table.length →
      t = ({ considered with
        render := some { r with step := .admission, read := .none } } : State).endJob r.job
          .tableFull (BitVec.ofNat 16 o.index))

end Sys2Proof.Machine
end

