-- ==== Sys2Proof/Certificates/Slice0/Obligations.lean ====
section
/-! DEFINITION. The statements for the provers. Each docstring names the rule of spec/ it formalises, or
the log entry whose choice it states. Full equations end in `State.settle`, which changes the pins
alone: what an equation does not name keeps its value. -/

section

open Sys2Proof Sys2Proof.Machine

/-! ### The queue, reset and the register window -/

/-- A step runs the command at the front of the queue on the state with the queue's rest. -/
def Obligations.StepRunsFrontCommand : Prop :=
  ∀ (c : Instr) (rest : List Instr) (s : State), s.pending = c :: rest →
    step s = exec c { s with pending := rest }

/-- The coalescing timer (R180): its expiry, in every engine state, sets COMPLETION and stops it, and with
no timer running changes nothing. On an empty queue a step is one of its microseconds (the model's choice,
log 3). -/
def Obligations.CoalescingTimerRuns : Prop :=
  ∀ s : State, s.resetHeld = false →
    let expired : State := { s with
      cause := s.cause ||| 0b000001#6
      completion := { s.completion with timer := none } }
    (s.completion.timer ≠ none → exec .coalescingTimerExpiry s = .next expired.settle) ∧
    (s.completion.timer = none → exec .coalescingTimerExpiry s = .next s.settle) ∧
    (s.pending = [] →
      (s.completion.timer = none → step s = .next s.settle) ∧
      (∀ n, s.completion.timer = some (n + 2) →
        step s = .next
          ({ s with completion := { s.completion with timer := some (n + 1) } } : State).settle) ∧
      (s.completion.timer = some 1 → step s = .next expired.settle))

/-- The values the spec gives every block after RESET_N (R35, R80, R82, R103, R125, R138, R140, R167, R181
to R183, R196, R199, Table 5-1). The setup address, the buffers' contents and the free-value counter are
the model's choices (logs 9 to 11) and are not stated. -/
def Obligations.ResetState : Prop :=
  State.reset.resetHeld = false ∧ State.reset.setup = 0#32 ∧ State.reset.cause = 0#6 ∧
  State.reset.ien = 0#6 ∧
  State.reset.engine =
    { state := .stopped, pendingStop := false, params := none,
      setupAddress := State.reset.engine.setupAddress, setupFetch := .idle, faultCode := 0,
      haltReason := .none, discarded := 0 } ∧
  State.reset.rings = ⟨⟨0#16, 0#16, .active, .none⟩, ⟨0#16, 0#16, .active, .none⟩⟩ ∧
  State.reset.completion = ⟨0#16, 0#16, 0, ⟨[], []⟩, .print, .print, none, none⟩ ∧
  (∀ r, State.reset.renderStates.get r =
    { originX := 0, originY := 0, clipLeft := 0, clipTop := 0, clipRight := 65535,
      clipBottom := 65535, pattern := 0xFFFFFFFFFFFFFFFF#64, defaultOp := .set, glyphTable := 0#32,
      glyphCount := 0, glyphBase := 0#32, extraSpacing := 0, strokeWidth := 1 }) ∧
  State.reset.loads = ⟨none, none⟩ ∧
  (∀ r, (State.reset.walkers.get r).job = none ∧ (State.reset.walkers.get r).pending = none) ∧
  State.reset.tables = ⟨[], []⟩ ∧
  (∀ i, (State.reset.bands.get i).state = .free ∧ (State.reset.bands.get i).owner = none ∧
    (State.reset.bands.get i).index = 0 ∧ (State.reset.bands.get i).first = 0 ∧
    (State.reset.bands.get i).count = 0) ∧
  State.reset.printQueue = [] ∧ State.reset.render = none ∧ State.reset.labels = [] ∧
  State.reset.head = ⟨none, none, 0#dotsPerRow, 0#dotsPerRow⟩ ∧ State.reset.image = none ∧
  State.reset.pins = ⟨false, false, false, false, false, false, false, []⟩ ∧
  State.reset.pending = []

/-- RESET_N asserted, in every state (R196): every block takes its reset value, the pins are idle, and the
register window reads 0. The buffers' contents are left open (log 9). The setup address (log 11), the list
address, object count and next index of the walker contexts (log 32) and the counter of the free values
(log 10) are the model's choices. -/
def Obligations.ResetNAsserted : Prop :=
  ∀ s : State, ∃ t, exec .resetN s = .next t ∧
    t = { State.reset with
      resetHeld := true, bands := t.bands, freeCount := s.freeCount + 1, pending := s.pending } ∧
    (∀ i, (t.bands.get i).state = .free ∧ (t.bands.get i).owner = none ∧
      (t.bands.get i).index = 0 ∧ (t.bands.get i).first = 0 ∧ (t.bands.get i).count = 0 ∧
      (t.bands.get i).rows.length = 64) ∧
    ∀ offset, t.readRegister offset = 0#32

/-- While RESET_N is asserted no well-formed command but the pin's own changes anything, and its
deassertion changes only its level and what the pins follow (R196). -/
def Obligations.ResetNHolds : Prop :=
  (∀ (c : Instr) (s : State), s.resetHeld = true → c.wellFormed = true → c ≠ .resetN →
    c ≠ .resetNDeasserted → exec c s = .next s) ∧
  (∀ s : State, exec .resetNDeasserted s =
    .next ({ s with resetHeld := false } : State).settle)

/-- The command that a write to the window is (R199, R207, Tables 11-12 and 11-14): a full write to CMD is
the command of its whole value, 1 to 7, or names none; a full write to SETUP, PPOST, IPOST, CREAD, CAUSE
or IEN is that register's row; every write is a well-formed command. A term that spells another row's
command is no command of its row, and the model stops (log 23). -/
def Obligations.IllFormedTermsStop : Prop :=
  (∀ v : Word, windowWrite 0x00#6 .full v =
    if v = 1#32 then .start
    else if v = 2#32 then .stop
    else if v = 3#32 then .abortPrint
    else if v = 4#32 then .abortImage
    else if v = 5#32 then .resetPrintRing
    else if v = 6#32 then .resetImageRing
    else if v = 7#32 then .engineReset
    else .cmdUndefinedCode v) ∧
  (∀ v : Word, windowWrite 0x08#6 .full v = .setupWrite v ∧
    windowWrite 0x0C#6 .full v = .producerWrite .print v ∧
    windowWrite 0x10#6 .full v = .producerWrite .image v ∧
    windowWrite 0x1C#6 .full v = .creadWrite v ∧ windowWrite 0x20#6 .full v = .causeWrite v ∧
    windowWrite 0x24#6 .full v = .ienWrite v) ∧
  (∀ (offset : BitVec 6) (width : AccessWidth) (v : Word),
    (windowWrite offset width v).wellFormed = true) ∧
  (∀ (v : Word) (s : State), 1 ≤ v.toNat → v.toNat ≤ 7 →
    exec (.cmdUndefinedCode v) s = .refused .illFormed) ∧
  (∀ (offset : BitVec 6) (v : Word) (s : State),
    offset.toNat ∈ [0x00, 0x08, 0x0C, 0x10, 0x1C, 0x20, 0x24] →
    exec (.registerWriteIgnored offset .full v) s = .refused .illFormed)

/-- Every refusal of Table 10-3 and of the producer writes, and a write to CMD that names no command, in
every engine state (R141, R164, R185, R207): REFUSED is set and nothing else changes. -/
def Obligations.RefusedCommands : Prop :=
  ∀ (c : Instr) (s : State), s.resetHeld = false →
    ((c = .start ∧ s.engine.state ≠ .stopped) ∨
      (c = .stop ∧ s.engine.state ≠ .starting ∧ s.engine.state ≠ .running) ∨
      ((c = .abortPrint ∨ c = .abortImage) ∧ s.engine.state ≠ .running ∧
        s.engine.state ≠ .draining) ∨
      (c = .resetPrintRing ∧ (s.engine.state ≠ .running ∨ s.completion.retire.print ≠ [])) ∨
      (c = .resetImageRing ∧ (s.engine.state ≠ .running ∨ s.completion.retire.image ≠ [])) ∨
      (∃ r v, c = .producerWrite r v ∧ (s.engine.state = .stopped ∨ s.engine.state = .halted)) ∨
      (∃ v : Word, c = .cmdUndefinedCode v ∧ (v.toNat = 0 ∨ 7 < v.toNat))) →
    exec c s = .next ({ s with cause := s.cause ||| 0b100000#6 } : State).settle

/-- Writes the window ignores change nothing, in every engine state: narrow writes, and full writes to an
offset with no writable register (R199, R206). That a narrow write is of 8, 16 or 24 bits, and that a full
write at an offset that is no multiple of 4 is ignored, are the model's choices (log 31). -/
def Obligations.IgnoredWrites : Prop :=
  ∀ (offset : BitVec 6) (width : AccessWidth) (v : Word) (s : State), WindowSound s →
    (width ≠ .full ∨ offset.toNat ∉ [0x00, 0x08, 0x0C, 0x10, 0x1C, 0x20, 0x24]) →
    windowWrite offset width v = .registerWriteIgnored offset width v ∧
    exec (.registerWriteIgnored offset width v) s = .next s

/-- SETUP (R200): every write stores the value with its low six bits cleared, whatever the engine state,
and changes nothing else; the stored address is 64-byte aligned; START captures it and keeps it;
ENGINE_RESET keeps it; RESET_N makes it 0. -/
def Obligations.SetupRegister : Prop :=
  (∀ (v : Word) (s : State), s.resetHeld = false →
    exec (.setupWrite v) s = .next ({ s with setup := v &&& 0xFFFFFFC0#32 } : State).settle ∧
    (v &&& 0xFFFFFFC0#32).toNat % 64 = 0 ∧
    (({ s with setup := v &&& 0xFFFFFFC0#32 } : State).settle.readRegister 0x08) =
      v &&& 0xFFFFFFC0#32) ∧
  (∀ s : State, s.resetHeld = false → s.engine.state = .stopped →
    ∃ t, exec .start s = .next t ∧ t.engine.setupAddress = s.setup ∧ t.setup = s.setup) ∧
  (∀ s : State, s.resetHeld = false → ∃ t, exec .engineReset s = .next t ∧ t.setup = s.setup) ∧
  (∀ s : State, ∃ t, exec .resetN s = .next t ∧ t.setup = 0#32)

/-- IEN and IRQ (R182): a write stores the low six bits at once in every engine state, and they read back;
after it IRQ is asserted exactly when a cause bit is set whose enable bit is set, and the same holds after
every well-formed command outside RESET_N; IEN is 0 after RESET_N and kept by ENGINE_RESET and START;
CAUSE is 0 and IRQ deasserted after both resets. -/
def Obligations.EnablesAndIrq : Prop :=
  (∀ (v : Word) (s : State), s.resetHeld = false →
    exec (.ienWrite v) s = .next ({ s with ien := v.setWidth 6 } : State).settle ∧
    ({ s with ien := v.setWidth 6 } : State).settle.readRegister 0x24 =
      (v.setWidth 6 : BitVec 6).setWidth 32) ∧
  (∀ (c : Instr) (s t : State), exec c s = .next t → s.resetHeld = false → t.resetHeld = false →
    (t.pins.irq = true ↔ ∃ k < 6, t.cause.getLsbD k = true ∧ t.ien.getLsbD k = true)) ∧
  (∀ s : State, ∃ t, exec .resetN s = .next t ∧ t.ien = 0#6 ∧ t.cause = 0#6 ∧ t.pins.irq = false) ∧
  (∀ s : State, s.resetHeld = false → ∃ t, exec .engineReset s = .next t ∧ t.ien = s.ien ∧
    t.cause = 0#6 ∧ t.pins.irq = false) ∧
  (∀ s : State, s.resetHeld = false → s.engine.state = .stopped →
    ∃ t, exec .start s = .next t ∧ t.ien = s.ien ∧ t.cause = s.cause)

/-- STALL and the head port's pins (R4, R103, R106, R107, R116, R117): after every command STALL is
asserted exactly when the engine is HALTED, or the head-current label is ALIGNING or PRINTING with S above
0 and fewer ready rows, in its PRINTING and READY buffers from the cursor on, than the lesser of S and its
undelivered rows; BURN_MAIN and BURN_BOOST are asserted in their phases. The shift of a phase is whole
within a command (log 22), so its pins are low after it; what it has sent on SHIFT_DATA is the W dots of
the phase's plane, dot 0 first, which is its bytes in order and each from bit 7 to bit 0. -/
def Obligations.StallAndBurnPins : Prop :=
  ∀ (c : Instr) (s t : State), exec c s = .next t → s.resetHeld = false → t.resetHeld = false →
    (t.pins.stall = true ↔ t.engine.state = .halted ∨
      ∃ l p, headCurrent t.labels = some l ∧ t.engine.params = some p ∧
        (l.printStatus = .aligning ∨ l.printStatus = .printing) ∧ 0 < p.stallThreshold ∧
        (let ready (b : BandBuffer) : Nat :=
          if b.owner = some (.label l.ringIndex) ∧ (b.state = .printing ∨ b.state = .ready) then
            ((List.range b.count).filter fun k => decide (l.cursor ≤ b.first + k)).length
          else 0
        ready t.bands.b0 + ready t.bands.b1 + ready t.bands.b2 + ready t.bands.b3 <
          min p.stallThreshold (l.length - l.cursor))) ∧
    (t.pins.burnMain = true ↔ ∃ d, t.head.delivery = some d ∧ d.phase = .mainBurn) ∧
    (t.pins.burnBoost = true ↔ ∃ d, t.head.delivery = some d ∧ d.phase = .boostBurn) ∧
    t.pins.shiftClk = false ∧ t.pins.shiftData = false ∧ t.pins.latch = false ∧
    (t.head.delivery = none → t.pins.shifted = []) ∧
    (∀ d p, t.head.delivery = some d → t.engine.params = some p →
      (d.phase = .mainBurn →
        t.pins.shifted = (List.range p.headWidth).map fun x => d.main.getMsbD x) ∧
      (d.phase = .boostBurn →
        t.pins.shifted = (List.range p.headWidth).map fun x => d.boost.getMsbD x) ∧
      (d.phase = .mainBurn → p.headWidth ≤ 2048 → ∀ k < p.headWidth / 8, ∀ i < 8,
        t.pins.shifted[8 * k + i]? =
          some (((rowBytes d.main (p.headWidth / 8)).getD k 0#8).getLsbD (7 - i))))

/-- The whole register window as a full read shows it, with the codes of STAT's fields (R199, R201, R206,
Table 11-13). -/
def Obligations.RegisterReads : Prop :=
  ∀ s : State, s.resetHeld = false →
    let ringCode (x : RingState) : BitVec 3 := match x with
      | .active => 0#3 | .flushing _ => 1#3 | .faultedOverrun => 2#3 | .faultedFetch => 3#3
    s.readRegister 0x00 = 0#32 ∧
    (s.readRegister 0x04).extractLsb' 0 3 = (match s.engine.state with
      | .stopped => 0#3 | .starting => 1#3 | .running => 2#3 | .draining => 3#3 | .halted => 4#3) ∧
    (s.readRegister 0x04).extractLsb' 4 4 = BitVec.ofNat 4 s.engine.faultCode ∧
    (s.readRegister 0x04).extractLsb' 8 3 = ringCode s.rings.print.state ∧
    (s.readRegister 0x04).extractLsb' 12 3 = ringCode s.rings.image.state ∧
    (s.readRegister 0x04).extractLsb' 16 2 = (match s.engine.haltReason with
      | .none => 0#2 | .printRecord => 1#2 | .imageRecord => 2#2) ∧
    s.readRegister 0x04 &&& 0xFFFC8808#32 = 0#32 ∧
    s.readRegister 0x08 = s.setup ∧
    s.readRegister 0x0C = s.rings.print.producer.setWidth 32 ∧
    s.readRegister 0x10 = s.rings.image.producer.setWidth 32 ∧
    (s.readRegister 0x14).extractLsb' 0 16 = s.rings.print.consumer ∧
    (s.readRegister 0x14).extractLsb' 16 16 = s.rings.image.consumer ∧
    (s.readRegister 0x18).extractLsb' 0 16 = s.completion.cpost ∧
    (s.readRegister 0x18).extractLsb' 16 9 = BitVec.ofNat 9 s.completion.reserved ∧
    s.readRegister 0x18 &&& 0xFE000000#32 = 0#32 ∧
    s.readRegister 0x1C = s.completion.cread.setWidth 32 ∧
    s.readRegister 0x20 = s.cause.setWidth 32 ∧ s.readRegister 0x24 = s.ien.setWidth 32 ∧
    (∀ offset ∈ [0x28, 0x2C, 0x30, 0x34, 0x38, 0x3C], s.readRegister offset = 0#32) ∧
    ∀ offset k, offset % 4 = 0 → k < 4 →
      s.readByte (offset + k) = (s.readRegister offset).extractLsb' (8 * k) 8

/-! ### Engine control -/

/-- START accepted in STOPPED (R187), and the beginning of its setup fetch, at once or once no discarded
transaction is outstanding (R188, R198). That the emptied walker contexts have list address, object count
and next index 0 is the model's choice (log 32). -/
def Obligations.StartOpensSession : Prop :=
  (∀ s : State, s.resetHeld = false → s.engine.state = .stopped →
    exec .start s = .next ({ s with
      engine :=
        { state := .starting, pendingStop := false, params := none, setupAddress := s.setup,
          setupFetch := .waiting, faultCode := 0, haltReason := .none,
          discarded := s.engine.discarded }
      rings := ⟨⟨0#16, 0#16, .active, .none⟩, ⟨0#16, 0#16, .active, .none⟩⟩
      completion := ⟨0#16, 0#16, 0, ⟨[], []⟩, .print, .print, none, none⟩
      renderStates := ⟨State.reset.renderStates.print, State.reset.renderStates.image⟩
      loads := ⟨none, none⟩
      walkers := ⟨⟨none, 0#32, 0, 0, none⟩, ⟨none, 0#32, 0, 0, none⟩⟩
      tables := ⟨[], []⟩
      bands := ⟨⟨.free, none, 0, 0, 0, s.bands.b0.rows⟩, ⟨.free, none, 0, 0, 0, s.bands.b1.rows⟩,
        ⟨.free, none, 0, 0, 0, s.bands.b2.rows⟩, ⟨.free, none, 0, 0, 0, s.bands.b3.rows⟩⟩
      printQueue := []
      render := none
      labels := []
      head := ⟨none, none, 0#dotsPerRow, 0#dotsPerRow⟩
      image := none } : State).settle) ∧
  (∀ s : State, s.resetHeld = false → s.engine.state = .starting →
    s.engine.setupFetch = .waiting →
    exec .setupFetchStart s = .next
      (if s.engine.discarded = 0 then
        ({ s with engine := { s.engine with setupFetch := .inFlight } } : State).settle
      else s.settle))

/-- STOP (R191, R192): in STARTING it is recorded; in RUNNING the engine drains, a fetch in flight is to
be discarded, a held LABEL is gone with its reservation, and with nothing left it is STOPPED at once (log
16). -/
def Obligations.StopCommand : Prop :=
  (∀ s : State, s.resetHeld = false → s.engine.state = .starting →
    exec .stop s =
      .next ({ s with engine := { s.engine with pendingStop := true } } : State).settle) ∧
  (∀ s : State, s.resetHeld = false → s.engine.state = .running →
    let idle := s.labels = [] ∧ s.image = none ∧ s.completion.retire.print = [] ∧
      s.completion.retire.image = [] ∧ s.rings.print.take.dropped = .none ∧
      s.rings.image.take.dropped = .none ∧ s.head.delivery = none
    ∃ t, exec .stop s = .next t ∧
      t = ({ s with
        engine := { s.engine with state := t.engine.state }
        cause := t.cause
        rings :=
          ⟨{ s.rings.print with take := s.rings.print.take.dropped },
            { s.rings.image with take := s.rings.image.take.dropped }⟩
        completion := { s.completion with
          reserved := s.completion.reserved - s.rings.print.take.released -
            s.rings.image.take.released } } : State).settle ∧
      (idle → t.engine.state = .stopped ∧ t.cause = s.cause ||| 0b010000#6) ∧
      (¬idle → t.engine.state = .draining ∧ t.cause = s.cause))

/-- ENGINE_RESET in every engine state (R197, R198): every block but SETUP, IEN and the buffers' contents
takes its reset value, and the transactions outstanding are counted as discarded, at least one for each
operation in flight (a setup fetch, descriptor fetch, state-record load, record fetch or read of object
data, row write or completion write) and none when there is none; each one's end lowers the count by 1 and
reaches no block. The setup address is kept (log 11), and the emptied walker contexts have list address,
object count and next index 0 (log 32): the model's choices. How many transactions beyond one an operation
has outstanding is a free value (log 8), which the counter numbers (log 10). -/
def Obligations.EngineResetCommand : Prop :=
  (∀ s : State, s.resetHeld = false →
    exec .discardedTransactionEnd s = .next
      ({ s with engine := { s.engine with discarded := s.engine.discarded - 1 } } : State).settle) ∧
  ∀ s : State, s.resetHeld = false →
    let fetching (x : RingRecord) : Nat := match x.take with
      | .fetch _ _ => 1
      | .none | .held _ => 0
    let loading (x : Option StateLoad) : Nat := match x with | some _ => 1 | none => 0
    let reading : Nat := match s.render with
      | none => 0
      | some r => match r.read with | .none => 0 | .record _ | .object _ _ _ => 1
    let writing : Nat := match s.image with
      | none => 0
      | some j => match j.write with | some _ => 1 | none => 0
    let posting : Nat := match s.completion.write with | some _ => 1 | none => 0
    let inFlight := (if s.engine.setupFetch = .inFlight then 1 else 0) +
      fetching s.rings.print + fetching s.rings.image + loading s.loads.print +
      loading s.loads.image + reading + writing + posting
    ∃ t, exec .engineReset s = .next t ∧
    t = ({ State.reset with
      setup := s.setup
      ien := s.ien
      engine := { State.reset.engine with
        setupAddress := s.engine.setupAddress, discarded := t.engine.discarded }
      bands := ⟨⟨.free, none, 0, 0, 0, s.bands.b0.rows⟩, ⟨.free, none, 0, 0, 0, s.bands.b1.rows⟩,
        ⟨.free, none, 0, 0, 0, s.bands.b2.rows⟩, ⟨.free, none, 0, 0, 0, s.bands.b3.rows⟩⟩
      freeCount := t.freeCount
      pending := s.pending } : State).settle ∧
    (s.engine.state = .halted → t.engine.discarded = s.engine.discarded) ∧
    (s.engine.state ≠ .halted → s.engine.discarded + inFlight ≤ t.engine.discarded) ∧
    (inFlight = 0 → t.engine.discarded = s.engine.discarded)

/-- The setup fault code (R189): 1 at a bus error with no byte checked, else the lowest-numbered code of
Table 10-6 whose condition holds of the block's bytes, else 0; and STAT's code is it after the outcome. -/
def Obligations.SetupFaultCodes : Prop :=
  (∀ (result : BusRead (BitVec 512)) (s : State), s.resetHeld = false →
    s.engine.state = .starting → s.engine.setupFetch = .inFlight →
    ∃ t, exec (.setupFetchEnd result) s = .next t ∧
      t.engine.faultCode = setupFaultCode result) ∧
  setupFaultCode .busError = 1 ∧
  ∀ d : BitVec 512,
    let u8 (k : Nat) := (d.extractLsb' (8 * k) 8).toNat
    let u16 (k : Nat) := (d.extractLsb' (8 * k) 16).toNat
    let u32 (k : Nat) := (d.extractLsb' (8 * k) 32).toNat
    let size (n : Nat) := ∃ k, 2 ≤ k ∧ k ≤ 8 ∧ n = 2 ^ k
    let c2 := u16 0 < 64 ∨ 2048 < u16 0 ∨ u16 0 % 8 ≠ 0
    let c3 := u8 2 ≠ 8 ∧ u8 2 ≠ 16 ∧ u8 2 ≠ 32 ∧ u8 2 ≠ 64
    let c4 := ¬size (u16 20) ∨ ¬size (u16 28) ∨ ¬size (u16 36)
    let c5 := u32 16 % 64 ≠ 0 ∨ u32 24 % 64 ≠ 0 ∨ u32 32 % 64 ≠ 0
    let c6 := u8 4 = 0
    let c7 := u8 6 = 0 ∨ 16 < u8 6
    let code := setupFaultCode (.data d)
    (code = 2 ↔ c2) ∧ (code = 3 ↔ ¬c2 ∧ c3) ∧ (code = 4 ↔ ¬c2 ∧ ¬c3 ∧ c4) ∧
      (code = 5 ↔ ¬c2 ∧ ¬c3 ∧ ¬c4 ∧ c5) ∧ (code = 6 ↔ ¬c2 ∧ ¬c3 ∧ ¬c4 ∧ ¬c5 ∧ c6) ∧
      (code = 7 ↔ ¬c2 ∧ ¬c3 ∧ ¬c4 ∧ ¬c5 ∧ ¬c6 ∧ c7) ∧
      (code = 0 ↔ ¬c2 ∧ ¬c3 ∧ ¬c4 ∧ ¬c5 ∧ ¬c6 ∧ ¬c7)

/-- The setup outcome (R190, R191): with a fault code or a pending STOP the engine returns to STOPPED, no
parameter is taken and no overrun check is made; else the parameters are written all together, from their
bytes of the block (Table 11-3), the engine is RUNNING, and a ring whose posted count exceeds its new size
is FAULTED(OVERRUN). SETUP_DONE is set in every case. -/
def Obligations.SetupOutcome : Prop :=
  ∀ (result : BusRead (BitVec 512)) (s : State), s.resetHeld = false →
    s.engine.state = .starting → s.engine.setupFetch = .inFlight →
    ((setupFaultCode result ≠ 0 ∨ s.engine.pendingStop = true) →
      exec (.setupFetchEnd result) s = .next ({ s with
        engine := { s.engine with
          state := .stopped, pendingStop := false, setupFetch := .idle,
          faultCode := setupFaultCode result }
        cause := s.cause ||| 0b001000#6 } : State).settle) ∧
    (∀ d, result = .data d → setupFaultCode result = 0 → s.engine.pendingStop = false →
      s.rings.print.state = .active → s.rings.image.state = .active →
      let u8 (k : Nat) := (d.extractLsb' (8 * k) 8).toNat
      let u16 (k : Nat) := (d.extractLsb' (8 * k) 16).toNat
      let u32 (k : Nat) := d.extractLsb' (8 * k) 32
      let p : SetupParams :=
        { headWidth := u16 0, bandHeight := u8 2, stallThreshold := u8 3, burnMain := u8 4,
          burnBoost := u8 5, coalesceCount := u8 6, coalesceTime := u16 8,
          ringBase := ⟨u32 16, u32 24⟩, ringSize := ⟨u16 20, u16 28⟩, completionBase := u32 32,
          completionSize := u16 36 }
      let exceeds (r : Ring) := p.ringSize.get r < (s.rings.get r).posted
      exec (.setupFetchEnd result) s = .next ({ s with
        engine := { s.engine with
          state := .running, params := some p, setupFetch := .idle, faultCode := 0 }
        cause := s.cause ||| 0b001000#6 |||
          (if exceeds .print ∨ exceeds .image then 0b000010#6 else 0#6)
        rings :=
          ⟨if exceeds .print then s.rings.print.overrun else s.rings.print,
            if exceeds .image then s.rings.image.overrun else s.rings.image⟩
        completion := { s.completion with
          reserved := s.completion.reserved -
            (if exceeds .print then s.rings.print.take.released else 0) -
            (if exceeds .image then s.rings.image.take.released else 0) } } : State).settle)

/-- DRAINING is left for STOPPED exactly when the drain conditions hold, with STOPPED set (R193). -/
def Obligations.DrainEnds : Prop :=
  ∀ s : State, s.resetHeld = false → s.engine.state = .draining →
    let drained := s.labels = [] ∧ s.image = none ∧ s.completion.retire.print = [] ∧
      s.completion.retire.image = [] ∧ s.rings.print.take = .none ∧
      s.rings.image.take = .none ∧ s.head.delivery = none
    (drained → exec .drainToStopped s = .next ({ s with
      engine := { s.engine with state := .stopped }
      cause := s.cause ||| 0b010000#6 } : State).settle) ∧
    (¬drained → exec .drainToStopped s = .next s.settle)

/-! ### Producer, consumer and cause writes -/

/-- An accepted producer write (R141, R142, R162): stored without a check in STARTING and on a FAULTED
ring; on an ACTIVE ring stored when the posted count is within the size; over the size the ring is
FAULTED(OVERRUN), its take in flight discarded and RING_FAULT set; on a FLUSHING ring within the size the
boundary moves back to a producer index below it, and the flush ends where the producer index meets the
consumer index. -/
def Obligations.ProducerWrites : Prop :=
  ∀ (r : Ring) (v : Word) (s : State), s.resetHeld = false →
    let x := s.rings.get r
    let stored : RingRecord := { x with producer := v.setWidth 16 }
    let with_ (y : RingRecord) : State := { s with rings := s.rings.set r y }
    (s.engine.state = .starting →
      exec (.producerWrite r v) s = .next (with_ stored).settle) ∧
    (∀ p, (s.engine.state = .running ∨ s.engine.state = .draining) → s.engine.params = some p →
      (x.state = .faultedOverrun ∨ x.state = .faultedFetch →
        exec (.producerWrite r v) s = .next (with_ stored).settle) ∧
      (x.state = .active → stored.posted ≤ p.ringSize.get r →
        exec (.producerWrite r v) s = .next (with_ stored).settle) ∧
      (x.state.faulted = false → p.ringSize.get r < stored.posted →
        exec (.producerWrite r v) s = .next ({ with_ stored.overrun with
          cause := s.cause ||| 0b000010#6
          completion := { s.completion with
            reserved := s.completion.reserved - x.take.released } } : State).settle) ∧
      (∀ b, x.state = .flushing b → stored.posted ≤ p.ringSize.get r →
        exec (.producerWrite r v) s = .next (with_ { stored with
          state :=
            if stored.producer = x.consumer then .active
            else if (stored.producer - x.consumer).toNat ≤ (b - x.consumer).toNat then
              .flushing stored.producer
            else .flushing b }).settle))

/-- CREAD (R178, R180): in every engine state the low 16 bits are checked against the old index and CPOST.
The old value changes nothing; a value between the two is stored, frees as many slots as records it
consumes, and stops the timer when it consumes the last; any other value is refused. -/
def Obligations.ConsumerWrites : Prop :=
  ∀ (v : Word) (s : State), s.resetHeld = false →
    let n : Half := v.setWidth 16
    let c := s.completion
    (n = c.cread → exec (.creadWrite v) s = .next s.settle) ∧
    (n ≠ c.cread → (n - c.cread).toNat ≤ (c.cpost - c.cread).toNat →
      exec (.creadWrite v) s = .next ({ s with
        completion := { c with
          cread := n, timer := if n = c.cpost then none else c.timer } } : State).settle ∧
      (c.cpost - n).toNat = (c.cpost - c.cread).toNat - (n - c.cread).toNat) ∧
    ((c.cpost - c.cread).toNat < (n - c.cread).toNat →
      exec (.creadWrite v) s =
        .next ({ s with cause := s.cause ||| 0b100000#6 } : State).settle)

/-- CAUSE (R181, Table 9-10): bits written 1 are cleared in every engine state; when COMPLETION is one of
them the unconsumed count is examined at once. -/
def Obligations.CauseWrites : Prop :=
  ∀ (v : Word) (s : State), s.resetHeld = false →
    let cleared : State := { s with cause := s.cause &&& ~~~(v.setWidth 6 : BitVec 6) }
    ((v.getLsbD 0 = false ∨ s.engine.params = none) →
      exec (.causeWrite v) s = .next cleared.settle) ∧
    (∀ p, v.getLsbD 0 = true → s.engine.params = some p →
      (p.coalesceCount ≤ s.unconsumed →
        exec (.causeWrite v) s = .next ({ cleared with
          cause := cleared.cause ||| 0b000001#6
          completion := { s.completion with timer := none } } : State).settle) ∧
      (1 ≤ s.unconsumed → s.unconsumed < p.coalesceCount → 0 < p.coalesceTime →
        s.completion.timer = none →
        exec (.causeWrite v) s = .next ({ cleared with
          completion := { s.completion with timer := some p.coalesceTime } } : State).settle) ∧
      (s.unconsumed < p.coalesceCount →
        s.unconsumed = 0 ∨ p.coalesceTime = 0 ∨ s.completion.timer ≠ none →
        exec (.causeWrite v) s = .next cleared.settle))

/-! ### Taking descriptors -/

/-- A descriptor fetch begins (R99, R126, R145 to R147, R168, R169) in RUNNING, with no take in flight and
fewer than 8 entries in the ring's retire queue, on an ACTIVE ring with descriptors untaken and its render
side idle, or on a FLUSHING ring short of its boundary, when a slot is free: a slot is reserved and the
read issued at base + 32·(consumer modulo size). Without one of the conditions nothing begins. With one
free slot wanted by both rings the turn decides and passes on; the loser changes nothing (log 18). -/
def Obligations.DescriptorFetchBegins : Prop :=
  ∀ (r : Ring) (p : SetupParams) (s : State), s.resetHeld = false → s.engine.params = some p →
    let idle (q : Ring) : Prop := match q with
      | .print => (∀ l ∈ s.labels, l.renderStatus ≠ .loading ∧ l.renderStatus ≠ .rendering) ∧
          s.loads.print = none
      | .image => s.image = none ∧ s.loads.image = none
    let wants (q : Ring) : Prop :=
      s.engine.state = .running ∧ (s.rings.get q).take = .none ∧
      (s.completion.retire.get q).length < 8 ∧
      ((s.rings.get q).state = .active ∧ (s.rings.get q).producer ≠ (s.rings.get q).consumer ∧
          idle q ∨
        ∃ b, (s.rings.get q).state = .flushing b ∧ (s.rings.get q).consumer ≠ b)
    let free := p.completionSize - s.completion.reserved - (s.completion.cpost -
      s.completion.cread).toNat
    let fetching : TakeInFlight := .fetch (p.ringBase.get r +
      BitVec.ofNat 32 (32 * ((s.rings.get r).consumer.toNat % p.ringSize.get r))) false
    let begun (turn : Ring) : State := { s with
      rings := s.rings.set r { s.rings.get r with take := fetching }
      completion := { s.completion with
        reserved := s.completion.reserved + 1, reservationTurn := turn } }
    (¬wants r → exec (.descriptorFetchStart r) s = .next s.settle) ∧
    (free = 0 → exec (.descriptorFetchStart r) s = .next s.settle) ∧
    (wants r → 1 ≤ free → (2 ≤ free ∨ ¬wants r.other) →
      exec (.descriptorFetchStart r) s =
        .next (begun s.completion.reservationTurn).settle) ∧
    (wants r → free = 1 → wants r.other →
      exec (.descriptorFetchStart r) s =
        .next (if s.completion.reservationTurn = r then (begun r.other).settle else s.settle))

/-- A descriptor fetch that ends with a bus error and is not discarded (R149): FAULTED(FETCH), RING_FAULT,
the reservation released; no consumer advance, no retire entry, no job and not the other ring. -/
def Obligations.DescriptorFetchError : Prop :=
  ∀ (r : Ring) (a : Word) (s : State), s.resetHeld = false → s.engine.state = .running →
    (s.rings.get r).take = .fetch a false → (s.rings.get r).state ≠ .faultedOverrun →
    (s.rings.get r).state ≠ .faultedFetch →
    exec (.descriptorFetchEnd r .busError) s = .next ({ s with
      rings := s.rings.set r { s.rings.get r with state := .faultedFetch, take := .none }
      cause := s.cause ||| 0b000010#6
      completion := { s.completion with
        reserved := s.completion.reserved - 1 } } : State).settle

/-- A fetch whose data are discarded, marked so or ended outside RUNNING or on a FAULTED ring, ends
without a take or a check, with its reservation released (R148); in HALTED nothing moves (R140). The bytes
of a descriptor that may no longer be taken, moved back over or met by a busy render side, are discarded
as well (log 12). -/
def Obligations.DescriptorFetchDiscarded : Prop :=
  ∀ (r : Ring) (result : BusRead (BitVec 256)) (a : Word) (marked : Bool) (s : State),
    s.resetHeld = false → (s.rings.get r).take = .fetch a marked →
    (s.engine.state = .halted → exec (.descriptorFetchEnd r result) s = .next s.settle) ∧
    (s.engine.state ≠ .halted →
      (marked = true ∨ s.engine.state ≠ .running ∨ (s.rings.get r).state.faulted = true) →
      exec (.descriptorFetchEnd r result) s = .next ({ s with
        rings := s.rings.set r { s.rings.get r with take := .none }
        completion := { s.completion with
          reserved := s.completion.reserved - 1 } } : State).settle) ∧
    (∀ d, result = .data d → s.engine.state = .running →
      ((s.rings.get r).producer = (s.rings.get r).consumer ∨
        ((s.rings.get r).state = .active ∧ s.sideIdle r = false)) →
      exec (.descriptorFetchEnd r result) s = .next ({ s with
        rings := s.rings.set r { s.rings.get r with take := .none }
        completion := { s.completion with
          reserved := s.completion.reserved - 1 } } : State).settle)

/-- The take of a descriptor finished at the take (R150, R152, R155 to R161): FLUSHED on a FLUSHING ring
whatever the bytes, the ring ACTIVE again at the boundary; on an ACTIVE ring BAD_KIND, BAD_DESCRIPTOR, and
OK for a MARKER. The consumer advances, the reservation is passed on, one finished entry is appended, and
nothing else changes. -/
def Obligations.FinishedAtTheTake : Prop :=
  ∀ (r : Ring) (d : BitVec 256) (s : State), s.resetHeld = false → FetchAnswers s r →
    let x := s.rings.get r
    let u8 (k : Nat) := (d.extractLsb' (8 * k) 8).toNat
    let u16 (k : Nat) := (d.extractLsb' (8 * k) 16).toNat
    let u32 (k : Nat) := (d.extractLsb' (8 * k) 32).toNat
    let taken (st : Status) (state : RingState) : State := { s with
      rings := s.rings.set r { x with consumer := x.consumer + 1#16, take := .none, state := state }
      completion := { s.completion with
        retire := s.completion.retire.set r (s.completion.retire.get r ++
          [finishedEntry x.consumer (d.extractLsb' 16 16) (d.extractLsb' 0 8) st]) } }
    let badKind := u8 0 = 0 ∨ 5 ≤ u8 0 ∨ (u8 0 = 1 ∧ r = .image) ∨ (u8 0 = 2 ∧ r = .print)
    let badLabel := u32 8 % 32 ≠ 0 ∨ u16 14 = 0 ∨ (d.getLsbD 9 = true ∧ u16 16 = 0)
    let badImage := u32 8 % 32 ≠ 0 ∨ u16 14 = 0 ∨ 2048 < u16 14 ∨ u16 16 = 0 ∨
      u16 18 < (u16 14 + 7) / 8
    (∀ b, x.state = .flushing b → exec (.descriptorFetchEnd r (.data d)) s =
      .next (taken .flushed
        (if x.consumer + 1#16 = b then .active else .flushing b)).settle) ∧
    (x.state = .active →
      (badKind → exec (.descriptorFetchEnd r (.data d)) s = .next (taken .badKind .active).settle) ∧
      ((u8 0 = 1 ∧ r = .print ∧ badLabel ∨ u8 0 = 2 ∧ r = .image ∧ badImage ∨
          u8 0 = 3 ∧ u32 4 = 0) →
        exec (.descriptorFetchEnd r (.data d)) s = .next (taken .badDescriptor .active).settle) ∧
      (u8 0 = 4 →
        exec (.descriptorFetchEnd r (.data d)) s = .next (taken .ok .active).settle))

/-- A valid LABEL (R94, R95, R151, R152, R156): at the end of its fetch with fewer than 4 labels, or taken
later from its held bytes, the consumer advances, an unfinished entry is appended, and a label entry with
the fields of Table 6-1 joins the list, LOADING with its load begun, or RENDERING with the walker set up
(R21) when it names no state record. With 4 labels it is held, its reservation kept. Labels are told apart
by ring index (log 19). -/
def Obligations.LabelTaken : Prop :=
  ∀ (d : BitVec 256) (s : State), s.resetHeld = false →
    d.extractLsb' 0 8 = 1#8 → (d.extractLsb' 64 32).toNat % 32 = 0 →
    (d.extractLsb' 112 16).toNat ≠ 0 →
    (d.getLsbD 9 = true → (d.extractLsb' 128 16).toNat ≠ 0) →
    s.rings.print.state = .active → s.engine.state = .running → s.rings.print.posted ≠ 0 →
    (∀ l ∈ s.labels, l.ringIndex ≠ s.rings.print.consumer) →
    let i := s.rings.print.consumer
    let none_ := d.extractLsb' 32 32 = 0#32
    let count := (d.extractLsb' 96 16).toNat
    let list := d.extractLsb' 64 32
    let new : LabelEntry :=
      { ringIndex := i, tag := d.extractLsb' 16 16, length := (d.extractLsb' 112 16).toNat,
        pad := d.getLsbD 8, align := d.getLsbD 9, markLimit := (d.extractLsb' 128 16).toNat,
        renderStatus := if none_ then .rendering else .loading, printStatus := .waiting,
        nextBand := 0, cursor := 0, rowsSent := 0, rowsPadded := 0, steps := 0,
        signature := 0xFFFF#16,
        report := ⟨⟨false, false, false, false⟩, none, 0xFFFF#16, 0⟩ }
    let taken : State := { s with
      rings := ⟨{ s.rings.print with consumer := i + 1#16, take := .none }, s.rings.image⟩
      completion := { s.completion with
        retire := ⟨s.completion.retire.print ++ [⟨i, d.extractLsb' 16 16, 1#8, none⟩],
          s.completion.retire.image⟩ }
      labels := s.labels ++ [new]
      walkers :=
        if none_ then ⟨⟨some (.label i), list, count, 0, none⟩, s.walkers.image⟩ else s.walkers
      tables := if none_ then ⟨[], s.tables.image⟩ else s.tables
      loads :=
        if none_ then s.loads
        else ⟨some ⟨.label i, d.extractLsb' 32 32, list, count, false⟩, s.loads.image⟩ }
    (∀ a, s.rings.print.take = .fetch a false → s.sideIdle .print = true → s.labels.length < 4 →
      exec (.descriptorFetchEnd .print (.data d)) s = .next taken.settle) ∧
    (∀ a, s.rings.print.take = .fetch a false → s.sideIdle .print = true → s.labels.length = 4 →
      exec (.descriptorFetchEnd .print (.data d)) s = .next ({ s with
        rings := ⟨{ s.rings.print with take := .held d }, s.rings.image⟩ } : State).settle) ∧
    (s.rings.print.take = .held d → s.labels.length < 4 →
      exec .heldLabelTake s = .next taken.settle) ∧
    (s.rings.print.take = .held d → 4 ≤ s.labels.length →
      exec .heldLabelTake s = .next s.settle)

/-- A valid IMAGE (R126, R152, R157): the image job of Table 7-1, LOADING with its load begun, or
REQUESTING with the walker set up (R21) when it names no state record. -/
def Obligations.ImageTaken : Prop :=
  ∀ (d : BitVec 256) (s : State), s.resetHeld = false → FetchAnswers s .image →
    s.rings.image.state = .active → d.extractLsb' 0 8 = 2#8 →
    (d.extractLsb' 64 32).toNat % 32 = 0 →
    1 ≤ (d.extractLsb' 112 16).toNat → (d.extractLsb' 112 16).toNat ≤ 2048 →
    (d.extractLsb' 128 16).toNat ≠ 0 →
    ((d.extractLsb' 112 16).toNat + 7) / 8 ≤ (d.extractLsb' 144 16).toNat →
    let i := s.rings.image.consumer
    let none_ := d.extractLsb' 32 32 = 0#32
    let count := (d.extractLsb' 96 16).toNat
    let list := d.extractLsb' 64 32
    exec (.descriptorFetchEnd .image (.data d)) s = .next ({ s with
      rings := ⟨s.rings.print, { s.rings.image with consumer := i + 1#16, take := .none }⟩
      completion := { s.completion with
        retire := ⟨s.completion.retire.print,
          s.completion.retire.image ++ [⟨i, d.extractLsb' 16 16, 2#8, none⟩]⟩ }
      image := some
        { ringIndex := i, tag := d.extractLsb' 16 16, width := (d.extractLsb' 112 16).toNat,
          height := (d.extractLsb' 128 16).toNat, destination := d.extractLsb' 160 32,
          stride := (d.extractLsb' 144 16).toNat,
          phase := if none_ then .requesting else .loading, nextBand := 0, buffer := none,
          write := none, signature := 0xFFFF#16,
          report := ⟨⟨false, false, false, false⟩, none, 0xFFFF#16, 0⟩ }
      walkers :=
        if none_ then ⟨s.walkers.print, ⟨some .image, list, count, 0, none⟩⟩ else s.walkers
      tables := if none_ then ⟨s.tables.print, []⟩ else s.tables
      loads :=
        if none_ then s.loads
        else ⟨s.loads.print, some ⟨.image, d.extractLsb' 32 32, list, count, false⟩⟩ } :
      State).settle

/-- A valid STATE on either ring (R91, R152, R158): its load begins, and nothing else is claimed. -/
def Obligations.StateDescriptorTaken : Prop :=
  ∀ (r : Ring) (d : BitVec 256) (s : State), s.resetHeld = false → FetchAnswers s r →
    (s.rings.get r).state = .active → d.extractLsb' 0 8 = 3#8 → d.extractLsb' 32 32 ≠ 0#32 →
    let i := (s.rings.get r).consumer
    exec (.descriptorFetchEnd r (.data d)) s = .next ({ s with
      rings := s.rings.set r { s.rings.get r with consumer := i + 1#16, take := .none }
      completion := { s.completion with
        retire := s.completion.retire.set r
          (s.completion.retire.get r ++ [⟨i, d.extractLsb' 16 16, 3#8, none⟩]) }
      loads := s.loads.set r
        (some ⟨.state i, d.extractLsb' 32 32, 0#32, 0, false⟩) } : State).settle

/-! ### Aborts and ring resets -/

/-- ABORT_x at the queue manager and the load of a STATE (R92, R160, Table 8-10): in RUNNING an ACTIVE
ring with descriptors untaken, and a FLUSHING ring, flush up to the producer index; else the ring's state
stays. A held LABEL is the first descriptor flushed. A STATE whose load is in flight is ended, and its
load goes on to be discarded; a load that serves a job stays as it is. The other ring's record and load
are not affected. -/
def Obligations.AbortFlushes : Prop :=
  ∀ (r : Ring) (s : State), s.resetHeld = false →
    (s.engine.state = .running ∨ s.engine.state = .draining) →
    let x := s.rings.get r
    ∃ t, exec (match r with | .print => .abortPrint | .image => .abortImage) s = .next t ∧
      t.rings.get r.other = s.rings.get r.other ∧ t.cause = s.cause ∧ t.engine = s.engine ∧
      t.loads.get r.other = s.loads.get r.other ∧
      (∀ ld i, s.loads.get r = some ld → ld.job = .state i →
        t.loads.get r = some { ld with aborted := true }) ∧
      ((∀ ld i, s.loads.get r = some ld → ld.job ≠ .state i) →
        t.loads.get r = s.loads.get r) ∧
      (s.engine.state = .draining ∨ x.state.faulted = true ∨ (x.state = .active ∧ x.posted = 0) →
        t.rings.get r = x) ∧
      (s.engine.state = .running → (x.state = .active ∧ x.posted ≠ 0 ∨ ∃ b, x.state = .flushing b) →
        ((∀ d, x.take ≠ .held d) → t.rings.get r = { x with state := .flushing x.producer }) ∧
        (∀ d, x.take = .held d →
          t.rings.get r = { x with
            consumer := x.consumer + 1#16
            take := .none
            state :=
              if x.consumer + 1#16 = x.producer then .active else .flushing x.producer } ∧
          ∃ before, t.completion.retire.get r = before ++
            [finishedEntry x.consumer (d.extractLsb' 16 16) (d.extractLsb' 0 8) .flushed]))

/-- ABORT_PRINT at the labels (R118 to R120): every label not ENDED ends ABORTED with fault index 0xFFFF,
one already ENDED keeps its status, no label's rows or signature change, and their READY and PRINTING
buffers go FREE together, keeping their band index, first row and count (the model's choice, log 28); the
image job, its side and every buffer it holds are untouched. -/
def Obligations.AbortPrintEndsLabels : Prop :=
  ∀ s : State, s.resetHeld = false →
    (s.engine.state = .running ∨ s.engine.state = .draining) →
    (s.labels.map LabelEntry.ringIndex).Nodup →
    ∃ t, exec .abortPrint s = .next t ∧
      List.Forall₂ (fun l m : LabelEntry =>
        (l.printStatus = .ended → m = l) ∧
        (l.printStatus ≠ .ended → m = { l with
          printStatus := .ended
          renderStatus := m.renderStatus
          report := { l.report with status := some .aborted, faultIndex := 0xFFFF#16 } } ∧
          (l.renderStatus ≠ .rendering → m.renderStatus = l.renderStatus) ∧
          (l.renderStatus = .rendering → m.renderStatus =
            if s.rendersJob (.label l.ringIndex) then .rendering else .cut))) s.labels t.labels ∧
      (∀ i, t.bands.get i =
        if (∃ l ∈ s.labels, l.printStatus ≠ .ended ∧
            (s.bands.get i).owner = some (.label l.ringIndex)) ∧
          ((s.bands.get i).state = .ready ∨ (s.bands.get i).state = .printing) then
          { s.bands.get i with state := .free, owner := none }
        else s.bands.get i) ∧
      t.image = s.image ∧ t.loads.image = s.loads.image ∧ t.walkers.image = s.walkers.image ∧
      t.tables.image = s.tables.image ∧ t.renderStates = s.renderStates ∧
      t.head.delivery = s.head.delivery ∧
      t.completion.retire.image = s.completion.retire.image

/-- ABORT_IMAGE by the phase it finds (R76, R134, R136, Table 7-4): a job with no status ends ABORTED with
fault index 0xFFFF, a band render of it is to be cut, and a job that renders no band empties its side's
context and table (R31). REQUESTING, or WRITING with no write issued, the job leaves flight with its entry
finished ABORTED, the buffer it holds going FREE. That the buffer keeps its index, first row and count
(log 28), and that the emptied context has list address, object count and next index 0 (log 32), are the
model's choices. The labels, the print band queue, the head port, every label's buffer, the PRINT side and
both render states are left alone. -/
def Obligations.AbortImageByPhase : Prop :=
  ∀ s : State, s.resetHeld = false →
    (s.engine.state = .running ∨ s.engine.state = .draining) →
    ∃ t, exec .abortImage s = .next t ∧
      t.labels = s.labels ∧ t.printQueue = s.printQueue ∧ t.head = s.head ∧
      t.walkers.print = s.walkers.print ∧ t.tables.print = s.tables.print ∧
      t.renderStates = s.renderStates ∧ t.loads.print = s.loads.print ∧
      t.completion.retire.print = s.completion.retire.print ∧
      (∀ j, s.image = some j →
        let ended : ImageJob :=
          { j with report := { j.report with status := some .aborted, faultIndex := 0xFFFF#16 } }
        let finished : List RetireEntry := s.completion.retire.image.map fun e =>
          if e.ringIndex = j.ringIndex ∧ e.results = none then
            { e with results := some ⟨.aborted, { j.report.warnings with padded := false }, 0,
              j.signature, j.report.admitted, 0xFFFF#16⟩ }
          else e
        let leaves : Prop := t.image = none ∧
          ((∀ d, s.rings.image.take ≠ .held d) → t.completion.retire.image = finished)
        (j.report.status ≠ none →
          t.image = some j ∧ t.bands = s.bands ∧ t.render = s.render ∧
          t.walkers = s.walkers ∧ t.tables = s.tables) ∧
        (j.report.status = none →
          (∀ r, s.render = some r → r.job = .image →
            t.render = some { r with cutPending := true } ∧ t.walkers = s.walkers ∧
            t.tables = s.tables) ∧
          ((∀ r, s.render = some r → r.job ≠ .image) →
            t.render = s.render ∧ t.walkers.image = ⟨none, 0#32, 0, 0, none⟩ ∧
            t.tables.image = []) ∧
          (j.phase = .loading ∨ j.phase = .rendering ∨ (j.phase = .writing ∧ j.write ≠ none) →
            t.image = some ended ∧ t.bands = s.bands) ∧
          (j.phase = .requesting → leaves ∧ t.bands = s.bands) ∧
          (∀ i, j.phase = .writing → j.write = none → j.buffer = some i →
            leaves ∧
            t.bands = s.bands.set i { s.bands.get i with state := .free, owner := none }))) ∧
      (s.image = none → t.image = none ∧ t.bands = s.bands ∧ t.render = s.render)

/-- A ring reset accepted (R164): the consumer index becomes the producer index, the ring ACTIVE, a fetch
in flight is to be discarded, a held LABEL is dropped with its reservation (log 13), and the ring's render
state takes its reset values; CAUSE, the producer index and the other ring keep theirs. -/
def Obligations.RingResetAccepted : Prop :=
  ∀ (r : Ring) (s : State), s.resetHeld = false → s.engine.state = .running →
    s.completion.retire.get r = [] →
    exec (match r with | .print => .resetPrintRing | .image => .resetImageRing) s =
      .next ({ s with
        rings := s.rings.set r
          { producer := (s.rings.get r).producer, consumer := (s.rings.get r).producer,
            state := .active, take := (s.rings.get r).take.dropped }
        completion := { s.completion with
          reserved := s.completion.reserved - (s.rings.get r).take.released }
        renderStates := s.renderStates.set r (State.reset.renderStates.get r) } : State).settle

/-! ### State records -/

/-- The state record (R83, R85, R86): it is valid exactly when each present group passes its check of
Table 5-2; an absent group keeps the ring's value, whatever bytes stand in its place; a present group
takes the record's fields at their offsets (Table 11-8). -/
def Obligations.StateRecords : Prop :=
  (∀ d : BitVec 384, stateRecordValid d = true ↔
    (d.getLsbD 3 = true → (d.extractLsb' 192 8).toNat ≤ 3) ∧
    (d.getLsbD 4 = true → (d.extractLsb' 224 16).toNat ≤ 4096 ∧
      (d.extractLsb' 256 32).toNat % 8 = 0) ∧
    (d.getLsbD 6 = true → -16 ≤ (d.extractLsb' 200 8).toInt ∧ (d.extractLsb' 200 8).toInt ≤ 15) ∧
    (d.getLsbD 7 = true → 1 ≤ (d.extractLsb' 208 8).toNat ∧ (d.extractLsb' 208 8).toNat ≤ 8)) ∧
  ∀ (d : BitVec 384) (x : RenderState), stateRecordValid d = true →
    let y := applyStateRecord d x
    (d.getLsbD 0 = false → y.originX = x.originX ∧ y.originY = x.originY) ∧
    (d.getLsbD 0 = true → y.originX = (d.extractLsb' 32 16).toInt ∧
      y.originY = (d.extractLsb' 48 16).toInt) ∧
    (d.getLsbD 1 = false → y.clipLeft = x.clipLeft ∧ y.clipTop = x.clipTop ∧
      y.clipRight = x.clipRight ∧ y.clipBottom = x.clipBottom) ∧
    (d.getLsbD 1 = true → y.clipLeft = (d.extractLsb' 64 16).toNat ∧
      y.clipTop = (d.extractLsb' 80 16).toNat ∧ y.clipRight = (d.extractLsb' 96 16).toNat ∧
      y.clipBottom = (d.extractLsb' 112 16).toNat) ∧
    (d.getLsbD 2 = false → y.pattern = x.pattern) ∧
    (d.getLsbD 2 = true → y.pattern = d.extractLsb' 128 64) ∧
    (d.getLsbD 3 = false → y.defaultOp = x.defaultOp) ∧
    (d.getLsbD 3 = true → y.defaultOp = (match (d.extractLsb' 192 8).toNat with
      | 0 => .set | 1 => .clear | 2 => .invert | _ => .replace)) ∧
    (d.getLsbD 4 = false → y.glyphTable = x.glyphTable ∧ y.glyphCount = x.glyphCount) ∧
    (d.getLsbD 4 = true → y.glyphTable = d.extractLsb' 256 32 ∧
      y.glyphCount = (d.extractLsb' 224 16).toNat) ∧
    (d.getLsbD 5 = false → y.glyphBase = x.glyphBase) ∧
    (d.getLsbD 5 = true → y.glyphBase = d.extractLsb' 288 32) ∧
    (d.getLsbD 6 = false → y.extraSpacing = x.extraSpacing) ∧
    (d.getLsbD 6 = true → y.extraSpacing = (d.extractLsb' 200 8).toInt) ∧
    (d.getLsbD 7 = false → y.strokeWidth = x.strokeWidth) ∧
    (d.getLsbD 7 = true → y.strokeWidth = (d.extractLsb' 208 8).toNat)

/-- The end of a state-record load in RUNNING or DRAINING (R84, R86, R87, R89 to R92), by what it serves:
the ring's render state takes a valid record and is left alone otherwise; a STATE is finished OK,
STATE_FAULT, FETCH_ERROR or, aborted before, ABORTED; a LABEL goes to RENDERING, or is CUT and ENDED with
the status, or, ended before, CUT; an image job goes to REQUESTING, or leaves flight with its entry
finished with its status, that of the failed load or that of its end before. -/
def Obligations.StateLoadEnds : Prop :=
  ∀ (r : Ring) (result : BusRead (BitVec 384)) (ld : StateLoad) (s : State), s.resetHeld = false →
    (s.engine.state = .running ∨ s.engine.state = .draining) → s.loads.get r = some ld →
    let good := ∃ d, result = .data d ∧ stateRecordValid d = true
    let failure : Status := match result with | .busError => .fetchError | .data _ => .stateFault
    ∃ t, exec (.stateRecordLoadEnd r result) s = .next t ∧ t.loads = s.loads.set r none ∧
      t.rings = s.rings ∧
      (∀ i, ld.job = .state i →
        (ld.aborted = false → ∀ d, result = .data d → stateRecordValid d = true →
          t.renderStates = s.renderStates.set r (applyStateRecord d (s.renderStates.get r))) ∧
        ((ld.aborted = true ∨ ¬good) → t.renderStates = s.renderStates) ∧
        t.completion.retire = s.completion.retire.set r ((s.completion.retire.get r).map
          fun e => if e.ringIndex = i ∧ e.results = none then
              finishedEntry e.ringIndex e.tag e.kind
                (if ld.aborted then .aborted
                  else match result with
                  | .busError => .fetchError
                  | .data d => if stateRecordValid d then .ok else .stateFault)
            else e) ∧
        t.labels = s.labels ∧ t.image = s.image) ∧
      (∀ l, ld.job = .label l.ringIndex → s.onlyLabel l → l.renderStatus = .loading →
        s.rendersJob (.label l.ringIndex) = false →
        (l.printStatus = .ended → t.renderStates = s.renderStates ∧
          t.labels = replaceLabel s.labels l { l with renderStatus := .cut }) ∧
        (l.printStatus ≠ .ended → ∀ d, result = .data d → stateRecordValid d = true →
          t.renderStates = s.renderStates.set r (applyStateRecord d (s.renderStates.get r)) ∧
          t.labels = replaceLabel s.labels l
            { l with renderStatus := .rendering, report := l.report.setUp } ∧
          t.walkers.print = ⟨some (.label l.ringIndex), ld.listAddress, ld.objectCount, 0, none⟩ ∧
          t.tables.print = []) ∧
        (l.printStatus ≠ .ended → ¬good → t.renderStates = s.renderStates ∧
          t.labels = replaceLabel s.labels l { l with
            renderStatus := .cut
            printStatus := .ended
            report := { l.report with status := some failure, faultIndex := 0xFFFF#16 } })) ∧
      (∀ j, ld.job = .image → s.image = some j →
        (j.report.status = none → ∀ d, result = .data d → stateRecordValid d = true →
          t.renderStates = s.renderStates.set r (applyStateRecord d (s.renderStates.get r)) ∧
          t.image = some { j with phase := .requesting, report := j.report.setUp } ∧
          t.walkers.image = ⟨some .image, ld.listAddress, ld.objectCount, 0, none⟩) ∧
        ((j.report.status ≠ none ∨ ¬good) → t.renderStates = s.renderStates ∧ t.image = none ∧
          t.completion.retire = ⟨s.completion.retire.print, s.completion.retire.image.map fun e =>
            if e.ringIndex = j.ringIndex ∧ e.results = none then
              { e with results := some ⟨j.report.status.getD failure,
                { j.report.warnings with padded := false }, 0, j.signature, j.report.admitted,
                if j.report.status = none then 0xFFFF#16 else j.report.faultIndex⟩ }
            else e⟩))

/-! ### Rendering -/

/-- The arbiter (R63, R71 to R76, R79): with the rasterizer free in RUNNING or DRAINING the print side is
granted when the label that renders has a band left and a buffer is FREE; else, as when the label is
LOADING, the image side under the reserve. The lowest FREE buffer becomes FILLING for the side's next
band, all paper, and the render goes on into admission with what the side's context and table hold from
the band before; a pending object that would be a 33rd entry ends the job with TABLE_FULL, its render left
to be cut (DEDUCED, log 29). An end of the job that waits next, coming together with the grant (the
model's choice, log 33), finds the render at the boundary after the clear, with nothing considered, and a
render stands there only to be cut: the abort of its own side, or, for a label, a ROW_STEP or an end of a
burn that ends it. Any other command that waits, the other side's abort included, changes nothing of the
grant. Without a request, with a band render in flight, no buffer FREE, or in another engine state,
nothing changes. -/
def Obligations.RasterizerGrants : Prop :=
  (∀ s : State, s.resetHeld = false →
    (s.render ≠ none ∨ (∀ i, (s.bands.get i).state ≠ .free) ∨
      (s.engine.state ≠ .running ∧ s.engine.state ≠ .draining)) →
    exec .rasterizerGrant s = .next s.settle) ∧
  (∀ (c : Instr) (rest : List Instr) (r : RenderRecord) (s t : State),
    s.pending = .rasterizerGrant :: c :: rest → s.render = none → step s = .next t →
    t.render = some r → r.step = .clear →
    r.read = .none ∧ r.cutPending = false ∧
    ∃ u r', step t = .next u ∧ u.render = some r' ∧ r'.cutPending = true) ∧
  ∀ (p : SetupParams) (i : BufferId) (s : State), s.resetHeld = false → s.engine.params = some p →
    (s.engine.state = .running ∨ s.engine.state = .draining) → s.render = none →
    (s.bands.get i).state = .free → (∀ j < i, (s.bands.get j).state ≠ .free) →
    let B := p.bandHeight
    let filling (o : Owner) (k rows : Nat) : Bands :=
      s.bands.set i ⟨.filling, some o, k, k * B, min B (rows - k * B), List.replicate 64 0#dotsPerRow⟩
    let record (side : Ring) (o : Owner) (k rows : Nat) : RenderRecord :=
      ⟨side, o, i, k, k * B, min ((k + 1) * B) rows - 1, .clear, 0, false, .none⟩
    let stands (u : State) : Prop := exec .rasterizerGrant s = .next u.settle
    let admits (r : RenderRecord) (u : State) : Prop :=
      ∃ t, exec .rasterizerGrant s = .next t.settle ∧ AdmissionOutcome p r u t
    let headEvents : List Instr := [.rowStep, .burnMainEnd, .burnBoostEnd]
    (∀ l, s.onlyLabel l → l.renderStatus = .rendering → l.printStatus ≠ .ended →
      (∀ m ∈ s.labels, m.busy = true → m = l) → l.nextBand * B < l.length → 0 < B →
      let r := record .print (.label l.ringIndex) l.nextBand l.length
      let u : State := { s with
        bands := filling (.label l.ringIndex) l.nextBand l.length, render := some r }
      ((∀ c rest, s.pending = c :: rest → c ≠ .abortPrint ∧ c ∉ headEvents) → admits r u) ∧
      (∀ rest, s.pending = .abortPrint :: rest → stands u) ∧
      (∀ c rest, s.pending = c :: rest → c ∈ headEvents →
        ∃ v q, exec c { u.settle with pending := rest } = .next v ∧ v.render = some q ∧
          (q.cutPending = true → stands u) ∧ (q.cutPending = false → admits r u))) ∧
    (∀ j, (∀ l ∈ s.labels, l.renderStatus ≠ .rendering) →
      s.image = some j → j.phase = .requesting → j.report.status = none →
      j.nextBand * B < j.height → 0 < B →
      (s.labels = [] ∨ ∃ k, k ≠ i ∧ (s.bands.get k).state = .free) →
      let r := record .image .image j.nextBand j.height
      let u : State := { s with
        bands := filling .image j.nextBand j.height
        image := some { j with phase := .rendering, buffer := some i }
        render := some r }
      ((∀ c rest, s.pending = c :: rest → c ≠ .abortImage) → admits r u) ∧
      (∀ rest, s.pending = .abortImage :: rest → stands u)) ∧
    ((∀ l ∈ s.labels, l.renderStatus ≠ .rendering) →
      (s.image = none ∨ (∃ j, s.image = some j ∧ (j.phase ≠ .requesting ∨ j.report.status ≠ none)) ∨
        (s.labels ≠ [] ∧ ∀ k, k ≠ i → (s.bands.get k).state ≠ .free)) →
      exec .rasterizerGrant s = .next s.settle)

/-- The end of a record fetch (R22, R23) that brings no object: with the job ended, the data are discarded
whatever they are; a bus error ends the job with FETCH_ERROR, a record that fails a check with
OBJECT_FAULT, the fault index being the list index read, and the render is to be cut (log 29); the walker
context, its next index and the count of objects admitted stay. The label's buffers that go FREE keep
their index, first row and count (the model's choice, log 28). -/
def Obligations.RecordFetchFaults : Prop :=
  ∀ (result : BusRead (BitVec 256)) (p : SetupParams) (r : RenderRecord) (a : Word) (s : State),
    s.resetHeld = false → s.engine.params = some p →
    (s.engine.state = .running ∨ s.engine.state = .draining) → s.render = some r →
    r.read = .record a →
    let w := s.walkers.get r.side
    let st : Status := match result with | .busError => .fetchError | .data _ => .objectFault
    (r.cutPending = true → exec (.recordFetchEnd result) s =
      .next ({ s with render := some { r with read := .none } } : State).settle) ∧
    (r.cutPending = false →
      (∀ d, result = .data d → readObject (s.renderStates.get r.side) d = none) →
      ∃ t, exec (.recordFetchEnd result) s = .next t ∧
        t.walkers = s.walkers ∧ t.tables = s.tables ∧ t.completion = s.completion ∧
        (∀ l, r.job = .label l.ringIndex → s.onlyLabel l → l.printStatus ≠ .ended →
          t.render = some { r with read := .none, cutPending := true } ∧ t.image = s.image ∧
          t.labels = replaceLabel s.labels l { l with
            printStatus := .ended
            report := { l.report with
              status := some st, faultIndex := BitVec.ofNat 16 w.nextIndex } } ∧
          t.bands = s.bands.freed (fun b => decide (b.owner = some (.label l.ringIndex) ∧
            (b.state = .ready ∨ b.state = .printing)))) ∧
        (∀ j, r.job = .image → s.image = some j → j.report.status = none →
          t.render = some { r with read := .none, cutPending := true } ∧ t.labels = s.labels ∧
          t.bands = s.bands ∧
          t.image = some { j with report := { j.report with
            status := some st, faultIndex := BitVec.ofNat 16 w.nextIndex } }))

/-- An object record (R16 to R19, R203, Tables 2-3, 11-9 and 11-10): it is valid exactly when kind, op and
the kind's body fields pass, the flags and reserved bytes playing no part; its fields are those of its
bytes at their offsets, a STROKE's width 0 being the default width; the extent is that of its kind, and an
entry starts with nothing read (Table 3-11). -/
def Obligations.ObjectChecks : Prop :=
  ∀ (rs : RenderState) (d : BitVec 256),
    let u8 (k : Nat) := (d.extractLsb' (8 * k) 8).toNat
    let u16 (k : Nat) := (d.extractLsb' (8 * k) 16).toNat
    let s16 (k : Nat) := (d.extractLsb' (8 * k) 16).toInt
    let u32 (k : Nat) := d.extractLsb' (8 * k) 32
    let op := u8 1 ≤ 3 ∨ u8 1 = 7
    ((readObject rs d).isSome = true ↔ op ∧
      ((u8 0 = 1 ∧ 1 ≤ u16 8 ∧ u16 8 ≤ 4096 ∧ 1 ≤ u16 10) ∨
       (u8 0 = 2 ∧ u8 12 ≤ 8) ∨
       (u8 0 = 3 ∧ 1 ≤ u16 8 ∧ u16 8 ≤ 2048 ∧ 1 ≤ u16 10 ∧ u16 10 ≤ 4096 ∧ u16 12 ≤ 256 ∧
          (u16 8 + 7) / 8 ≤ u16 12 ∧ 1 ≤ u8 14 ∧ u8 14 ≤ 4 ∧ 1 ≤ u8 15 ∧ u8 15 ≤ 4) ∨
       (u8 0 = 4 ∧ d.getLsbD 64 = false ∧ 1 ≤ u16 12 ∧ u16 12 ≤ 256 ∧ 1 ≤ u8 14 + u8 15) ∨
       (u8 0 = 5 ∧ 1 ≤ u16 12 ∧ u16 12 ≤ 512 ∧ 1 ≤ u8 14 ∧ u8 14 ≤ 16 ∧ 1 ≤ u16 16))) ∧
    (∀ f, readObject rs d = some f →
      (u8 1 = 0 → f.op = some .set) ∧ (u8 1 = 1 → f.op = some .clear) ∧
      (u8 1 = 2 → f.op = some .invert) ∧ (u8 1 = 3 → f.op = some .replace) ∧
      (u8 1 = 7 → f.op = none) ∧
      f.pattern = d.getLsbD 16 ∧ f.x = s16 4 ∧ f.y = s16 6 ∧
      (u8 0 = 1 → f.body = .rule (u16 8) (u16 10)) ∧
      (u8 0 = 2 →
        f.body = .stroke (s16 8) (s16 10) (if u8 12 = 0 then rs.strokeWidth else u8 12)) ∧
      (u8 0 = 3 → f.body = .bitmap (u16 8) (u16 10) (u16 12) (u8 14) (u8 15) (u32 16)
        (u32 20).toNat) ∧
      (u8 0 = 4 → f.body = .text (u32 8) (u16 12) (u8 14) (u8 15)) ∧
      (u8 0 = 5 → f.body = .bars (u32 8) (u16 12) (u8 14) (u16 16))) ∧
    (∀ o : ObjectFields, extent rs o = match o.body with
      | .rule _ h => (o.y + rs.originY, o.y + rs.originY + h - 1)
      | .stroke _ y1 w => (min o.y y1 + rs.originY, max o.y y1 + rs.originY + w - 1)
      | .bitmap _ h _ _ sy _ _ => (o.y + rs.originY, o.y + rs.originY + h * sy - 1)
      | .text _ _ ascent descent =>
        (o.y + rs.originY - ascent, o.y + rs.originY + descent - 1)
      | .bars _ _ _ h => (o.y + rs.originY, o.y + rs.originY + h - 1)) ∧
    (∀ body : ObjectBody, startingProgress body = match body with
      | .rule _ _ => .rule
      | .stroke _ _ _ => .stroke
      | .bitmap _ _ _ _ _ _ _ => .bitmap 0 []
      | .text _ _ _ _ => .text none
      | .bars _ _ _ _ => .bars none)

/-- Admission of a record just read (R24 to R28, R36): a late object is counted and sets LATE_OBJECT; an
object that reaches the band is entered at the tail with its op resolved, counted, and sets LATE_OBJECT
when partly late; either way the next record's fetch is issued, or, the list ended, the table is painted.
A 33rd entry ends the job with TABLE_FULL, its render left to be cut (log 29). An object below the band
becomes pending, no record is fetched, and the table is painted. -/
def Obligations.Admission : Prop :=
  ∀ (d : BitVec 256) (p : SetupParams) (r : RenderRecord) (a : Word) (f : ObjectFields) (s : State),
    s.resetHeld = false → s.engine.params = some p →
    (s.engine.state = .running ∨ s.engine.state = .draining) → s.render = some r →
    r.read = .record a → r.cutPending = false →
    readObject (s.renderStates.get r.side) d = some f →
    let rs := s.renderStates.get r.side
    let w := s.walkers.get r.side
    let top := (extent rs f).1
    let bottom := (extent rs f).2
    let next : RenderRecord := { r with
      step := .admission
      read := .record (w.listAddress + BitVec.ofNat 32 (32 * (w.nextIndex + 1))) }
    let walked : State := { s with
      walkers := s.walkers.set r.side { w with nextIndex := w.nextIndex + 1, pending := none } }
    let counted (late : Bool) (x : JobReport) : JobReport := { x with
      admitted := x.admitted + 1
      warnings := { x.warnings with lateObject := x.warnings.lateObject || late } }
    let entry : TableEntry :=
      ⟨w.nextIndex, f, f.op.getD rs.defaultOp, top, bottom, startingProgress f.body⟩
    let paints (u : State) (table : List TableEntry) : State := u.paintOutcome r
      ((s.paintEnv p r).paintTable table ⟨(s.bands.get r.buffer).rows, false, false⟩)
    let late : State := walked.updateReport r.job (counted true)
    let entered : State :=
      { walked.updateReport r.job (counted (decide (0 < r.band ∧ top < r.first))) with
        tables := s.tables.set r.side (s.tables.get r.side ++ [entry]) }
    let more := w.nextIndex + 1 < w.objectCount
    (top ≤ r.last → 0 < r.band → bottom < r.first →
      (more → exec (.recordFetchEnd (.data d)) s =
        .next ({ late with render := some next } : State).settle) ∧
      (¬more → exec (.recordFetchEnd (.data d)) s =
        .next (paints late (s.tables.get r.side)).settle)) ∧
    (top ≤ r.last → (r.band = 0 ∨ (r.first : Int) ≤ bottom) → (s.tables.get r.side).length < 32 →
      (more → exec (.recordFetchEnd (.data d)) s =
        .next ({ entered with render := some next } : State).settle) ∧
      (¬more → exec (.recordFetchEnd (.data d)) s =
        .next (paints entered (s.tables.get r.side ++ [entry])).settle)) ∧
    (top ≤ r.last → (r.band = 0 ∨ (r.first : Int) ≤ bottom) →
      32 ≤ (s.tables.get r.side).length →
      exec (.recordFetchEnd (.data d)) s =
        .next (({ walked with render := some { r with step := .admission, read := .none } } :
          State).endJob r.job .tableFull (BitVec.ofNat 16 w.nextIndex)).settle) ∧
    ((r.last : Int) < top →
      exec (.recordFetchEnd (.data d)) s = .next (paints { s with
        walkers := s.walkers.set r.side { w with
          nextIndex := w.nextIndex + 1, pending := some ⟨w.nextIndex, f, top, bottom⟩ } }
        (s.tables.get r.side)).settle)

/-- The end of a read of object data (R37, R38): discarded when the job has ended; a bus error ends the
job with FETCH_ERROR and the entry's list index, the render left to be cut (log 29); else the table is
painted on from the entry, each entry whole before the next. What the data give (R36, R49, R51, R53 to
R57, R60): a BITMAP paints its row, then the short rows after it as paper with SHORT_SOURCE, and reads the
next row; a TEXT's codes are examined in order, each present code's glyph record is read and placed at the
pen, a missing one sets GLYPH_MISSING, and then the band's glyph rows are read and painted together; a
BARS lays its runs out and is painted, or, with a run outside 1..15, ends the job with OBJECT_FAULT. Data
of another length than asked for are no end of this read (log 6). -/
def Obligations.ObjectDataReads : Prop :=
  (∀ (result : BusRead (List Byte)) (p : SetupParams) (r : RenderRecord) (a : Word) (n : Nat)
    (work : PaintWork) (s : State), s.resetHeld = false → s.engine.params = some p →
    (s.engine.state = .running ∨ s.engine.state = .draining) → s.render = some r →
    r.read = .object a n work →
    (∀ bytes, result = .data bytes → bytes.length ≠ n →
      exec (.objectDataReadEnd result) s = .next s.settle) ∧
    ((∀ bytes, result = .data bytes → bytes.length = n) → r.cutPending = true →
      exec (.objectDataReadEnd result) s =
        .next ({ s with render := some { r with read := .none } } : State).settle) ∧
    (∀ e, (s.tables.get r.side)[r.entry]? = some e → r.cutPending = false → result = .busError →
      exec (.objectDataReadEnd result) s =
        .next (({ s with render := some { r with read := .none } } : State).endJob r.job
          .fetchError (BitVec.ofNat 16 e.index)).settle) ∧
    (∀ bytes, result = .data bytes → bytes.length = n → r.cutPending = false →
      exec (.objectDataReadEnd result) s = .next (s.paintOutcome r
        ((s.paintEnv p r).resumeTable (s.tables.get r.side) r.entry work bytes
          ⟨(s.bands.get r.buffer).rows, false, false⟩)).settle) ∧
    (∀ e address count m h bytes, s.tables.get r.side = [e] → r.entry = 0 →
      r.cutPending = false → e.fields.body = .bars address count m h → work = .barRuns →
      result = .data bytes → bytes.length = n →
      let env := s.paintEnv p r
      let bars := layoutBars m (e.fields.x + env.rs.originX) true bytes
      ((∃ b ∈ bytes, b.toNat = 0 ∨ 15 < b.toNat) →
        exec (.objectDataReadEnd result) s =
          .next (({ s with
            render := some { r with step := .paint, entry := 0, read := .none } } : State).endJob
              r.job .objectFault (BitVec.ofNat 16 e.index)).settle) ∧
      ((∀ b ∈ bytes, 1 ≤ b.toNat ∧ b.toNat ≤ 15) →
        exec (.objectDataReadEnd result) s = .next ({ s with
          tables := s.tables.set r.side [{ e with progress := .bars (some bars) }]
          bands := s.bands.set r.buffer { s.bands.get r.buffer with
            rows := env.paint e.op (env.barsMarks e.fields h bars) (s.bands.get r.buffer).rows }
          render := some { r with step := .retire, entry := 1, read := .none } } :
          State).settle))) ∧
  ∀ (env : PaintEnv) (e : TableEntry) (c : Canvas) (bytes : List Byte),
    (∀ (before rest : List TableEntry) (work : PaintWork),
      env.resumeTable (before ++ e :: rest) before.length work bytes c =
        match env.resumeTable [e] 0 work bytes c with
        | .waits t k c' a n w => .waits (before ++ t ++ rest) (before.length + k) c' a n w
        | .objectFault t k c' => .objectFault (before ++ t ++ rest) (before.length + k) c'
        | .painted t c' =>
          match env.paintTable rest c' with
          | .painted t' c'' => .painted (before ++ t ++ t') c''
          | .waits t' k c'' a n w =>
            .waits (before ++ t ++ t') (before.length + 1 + k) c'' a n w
          | .objectFault t' k c'' =>
            .objectFault (before ++ t ++ t') (before.length + 1 + k) c'') ∧
    (∀ width height stride sx sy length row address,
      e.fields.body = .bitmap width height stride sx sy address length →
      let b : BitmapFields := ⟨width, height, stride, sx, sy, address, length⟩
      let short (q : Nat) : Prop := length < q * stride + (width + 7) / 8
      let e' : TableEntry := { e with progress := .bitmap (row + 1) bytes }
      let on (shorts : List Nat) : Canvas := { c with
        rows := shorts.foldl (fun rows q => env.paint e.op (env.bitmapMarks e.fields b q []) rows)
          (env.paint e.op (env.bitmapMarks e.fields b row bytes) c.rows)
        shortSource := c.shortSource || !shorts.isEmpty }
      (∀ shorts : List Nat, (∀ q ∈ shorts, row < q ∧ short q) →
        env.resumeTable [e] 0 (.bitmapRow row shorts) bytes c = .painted [e'] (on shorts)) ∧
      (∀ (shorts : List Nat) (q : Nat) (rest : List Nat), (∀ x ∈ shorts, row < x ∧ short x) →
        row < q → ¬short q →
        env.resumeTable [e] 0 (.bitmapRow row (shorts ++ q :: rest)) bytes c =
          .waits [e'] 0 (on shorts) (address + BitVec.ofNat 32 (q * stride)) ((width + 7) / 8)
            (.bitmapRow q rest))) ∧
    (∀ address count ascent descent, e.fields.body = .text address count ascent descent →
      let placing (result : TableResult) (codes : List Half) (placed : List GlyphItem) (pen : Int) :
          Prop :=
        (∀ missing code rest, codes = missing ++ code :: rest →
          (∀ m ∈ missing, env.rs.glyphCount ≤ m.toNat) → code.toNat < env.rs.glyphCount →
          result = .waits [e] 0 { c with glyphMissing := c.glyphMissing || !missing.isEmpty }
            (env.rs.glyphTable + BitVec.ofNat 32 (8 * code.toNat)) 8
            (.textGlyph code rest placed pen)) ∧
        ((∀ m ∈ codes, env.rs.glyphCount ≤ m.toNat) →
          result = env.paintTable [{ e with progress := .text (some placed) }]
            { c with glyphMissing := c.glyphMissing || !codes.isEmpty })
      let u8 (k : Nat) : Byte := bytes.getD k 0#8
      placing (env.resumeTable [e] 0 .textString bytes c)
        ((List.range count).map fun k => u8 (2 * k + 1) ++ u8 (2 * k)) []
        (e.fields.x + env.rs.originX) ∧
      (∀ code rest placed pen, placing (env.resumeTable [e] 0 (.textGlyph code rest placed pen) bytes c)
        rest
        (placed ++ [⟨pen, (u8 0).toNat, (u8 1).toNat, (u8 2).toNat, u8 7 ++ u8 6 ++ u8 5 ++ u8 4⟩])
        (pen + (u8 3).toNat + env.rs.extraSpacing)) ∧
      (∀ g gathered, env.resumeTable [e] 0 (.textRow g [] gathered) bytes c =
        .painted [e] { c with rows := env.paint e.op (textMarks (gathered ++ [(g, bytes)])) c.rows }) ∧
      (∀ g q rest gathered, env.resumeTable [e] 0 (.textRow g (q :: rest) gathered) bytes c =
        .waits [e] 0 c q.address ((q.width + 7) / 8) (.textRow q rest (gathered ++ [(g, bytes)])))) ∧
    (∀ address count m h, e.fields.body = .bars address count m h →
      let bars := layoutBars m (e.fields.x + env.rs.originX) true bytes
      env.resumeTable [e] 0 .barRuns bytes c =
        if ∀ b ∈ bytes, 1 ≤ b.toNat ∧ b.toNat ≤ 15 then
          .painted [{ e with progress := .bars (some bars) }]
            { c with rows := env.paint e.op (env.barsMarks e.fields h bars) c.rows }
        else .objectFault [e] 0 c)

/-! ### Dots and covered sets -/

/-- Painting, dot by dot (R1, R5, R6, R7, R8, R13): a dot of the band takes the op under its mark exactly
when it is covered and in the effective clip; every other dot of the buffer, the rows and columns beyond
the band included, keeps its value; the grid is the job's. The PAINT step (R9, R36, R48, R49, R51, R57,
R60): the table's entries are painted in order, each whole before the next, up to the first read one
needs. A RULE and a STROKE read nothing; a BITMAP paints the row kept from the band before, takes short
rows as paper with SHORT_SOURCE and reads its next row; a TEXT reads its string, or, placed, the band's
glyph rows; a BARS reads its runs, or, laid out, is painted. -/
def Obligations.PaintedDots : Prop :=
  (∀ (env : PaintEnv) (op : CombineOp) (marks : Marks) (rows : List Row) (j : Nat) (old : Row),
    env.columns ≤ 2048 → rows[j]? = some old →
    let y := env.first + j
    let allowed (x : Nat) := y ≤ env.last ∧ x < env.columns ∧ y < env.gridRows ∧
      env.rs.clipLeft ≤ x ∧ x < env.rs.clipRight ∧ env.rs.clipTop ≤ y ∧ y < env.rs.clipBottom
    (env.paint op marks rows).length = rows.length ∧
    ∃ new, (env.paint op marks rows)[j]? = some new ∧ ∀ x < 2048,
      (allowed x → marks x y = some true →
        rowDot new x = match op with
          | .set | .replace => true
          | .clear => false
          | .invert => !rowDot old x) ∧
      (allowed x → marks x y = some false →
        rowDot new x = match op with
          | .replace => false
          | .set | .clear | .invert => rowDot old x) ∧
      (¬allowed x ∨ marks x y = none → rowDot new x = rowDot old x)) ∧
  (∀ (p : SetupParams) (r : RenderRecord) (s : State),
    (∀ l, r.job = .label l.ringIndex → s.onlyLabel l →
      s.paintEnv p r = ⟨s.renderStates.get r.side, p.headWidth, l.length, r.first, r.last⟩) ∧
    (∀ j, r.job = .image → s.image = some j →
      s.paintEnv p r = ⟨s.renderStates.get r.side, j.width, j.height, r.first, r.last⟩)) ∧
  ∀ (env : PaintEnv) (c : Canvas),
    env.paintTable [] c = .painted [] c ∧
    (∀ before rest : List TableEntry, env.paintTable (before ++ rest) c =
      match env.paintTable before c with
      | .waits t k c' a n w => .waits (t ++ rest) k c' a n w
      | .objectFault t k c' => .objectFault (t ++ rest) k c'
      | .painted t c' =>
        match env.paintTable rest c' with
        | .painted t' c'' => .painted (t ++ t') c''
        | .waits t' k c'' a n w => .waits (t ++ t') (before.length + k) c'' a n w
        | .objectFault t' k c'' => .objectFault (t ++ t') (before.length + k) c'') ∧
    ∀ e : TableEntry,
      (∀ w h, e.fields.body = .rule w h → env.paintTable [e] c =
        .painted [e] { c with rows := env.paint e.op (env.ruleMarks e.fields w h) c.rows }) ∧
      (∀ x1 y1 w, e.fields.body = .stroke x1 y1 w → env.paintTable [e] c =
        .painted [e] { c with rows := env.paint e.op (env.strokeMarks e.fields x1 y1 w) c.rows }) ∧
      (∀ address count m h, e.fields.body = .bars address count m h →
        (e.progress = .bars none →
          env.paintTable [e] c = .waits [e] 0 c address count .barRuns) ∧
        (∀ bars, e.progress = .bars (some bars) → env.paintTable [e] c =
          .painted [e] { c with rows := env.paint e.op (env.barsMarks e.fields h bars) c.rows })) ∧
      (∀ address count ascent descent, e.fields.body = .text address count ascent descent →
        (e.progress = .text none →
          env.paintTable [e] c = .waits [e] 0 c address (2 * count) .textString) ∧
        (∀ placed, e.progress = .text (some placed) →
          (env.glyphRows e.fields ascent descent placed = [] → env.paintTable [e] c =
            .painted [e] { c with rows := env.paint e.op (textMarks []) c.rows }) ∧
          (∀ g rest, env.glyphRows e.fields ascent descent placed = g :: rest →
            env.paintTable [e] c =
              .waits [e] 0 c g.address ((g.width + 7) / 8) (.textRow g rest [])))) ∧
      (∀ width height stride sx sy address length next kept (old shorts : List Nat),
        e.fields.body = .bitmap width height stride sx sy address length →
        e.progress = .bitmap next kept →
        let b : BitmapFields := ⟨width, height, stride, sx, sy, address, length⟩
        let short (q : Nat) : Prop := length < q * stride + (width + 7) / 8
        let on : Canvas := { c with
          rows := shorts.foldl (fun rows q => env.paint e.op (env.bitmapMarks e.fields b q []) rows)
            (old.foldl (fun rows q => env.paint e.op (env.bitmapMarks e.fields b q kept) rows) c.rows)
          shortSource := c.shortSource || !shorts.isEmpty }
        (old = [] ∨ ∃ q, old = [q] ∧ q + 1 = next) → shorts.Pairwise (· < ·) →
        (∀ q ∈ shorts, next ≤ q ∧ short q) →
        (env.neededRows e.fields b = old ++ shorts →
          ∃ n, env.paintTable [e] c = .painted [{ e with progress := .bitmap n kept }] on) ∧
        (∀ q rest, env.neededRows e.fields b = old ++ shorts ++ q :: rest → next ≤ q →
          (∀ x ∈ shorts, x < q) → ¬short q →
          ∃ n ≤ q, env.paintTable [e] c = .waits [{ e with progress := .bitmap n kept }] 0 on
            (address + BitVec.ofNat 32 (q * stride)) ((width + 7) / 8) (.bitmapRow q rest)))

/-- The covered sets of RULE, BITMAP, TEXT and BARS with their marks (R3, R10, R11, R40, R46 to R49, R53
to R55, R58): a rectangle of pattern or ink; scaled blocks of a source row's dots, paper when the row is
short, the rows needed being those with a grid row in the band; ink where any glyph covering the position
is ink, the glyph rows being those of each item's box, its pen column and the baseline less its ascent,
that lie in the band and the line box; runs laid end to end, bars and spaces in turn. -/
def Obligations.CoveredSets : Prop :=
  ∀ (env : PaintEnv) (o : ObjectFields) (x y : Int),
    let X := o.x + env.rs.originX
    let Y := o.y + env.rs.originY
    let fill := o.pattern = false ∨ env.rs.pattern.getLsbD (8 * (y % 8).toNat + (x % 8).toNat) = true
    (∀ w h : Nat, env.ruleMarks o w h x y =
      if X ≤ x ∧ x < X + w ∧ Y ≤ y ∧ y < Y + h then some (decide fill) else none) ∧
    (∀ (b : BitmapFields) (row : Nat) (bytes : List Byte), 1 ≤ b.scaleX → 1 ≤ b.scaleY →
      (∀ (c : Nat) (i j : Nat), c < b.width → i < b.scaleX → j < b.scaleY →
        env.bitmapMarks o b row bytes (X + (b.scaleX * c + i : Nat))
          (Y + (b.scaleY * row + j : Nat)) = some ((bytes.getD (c / 8) 0#8).getMsbD (c % 8))) ∧
      ((x < X ∨ X + (b.scaleX * b.width : Nat) ≤ x ∨ y < Y + (b.scaleY * row : Nat) ∨
          Y + (b.scaleY * (row + 1) : Nat) ≤ y) →
        env.bitmapMarks o b row bytes x y = none)) ∧
    (∀ b : BitmapFields, env.first ≤ env.last → 1 ≤ b.scaleY →
      (env.neededRows o b).Pairwise (· < ·) ∧
      ∀ row : Nat, row ∈ env.neededRows o b ↔ row < b.height ∧ ∃ j < b.scaleY,
        (env.first : Int) ≤ Y + (b.scaleY * row + j : Nat) ∧
          Y + (b.scaleY * row + j : Nat) ≤ env.last) ∧
    (∀ (ascent descent : Nat) (placed : List GlyphItem) (g : GlyphRow),
      g ∈ env.glyphRows o ascent descent placed ↔ ∃ i ∈ placed, ∃ row < i.height, 0 < i.width ∧
        g = ⟨i.pen, i.width, Y - i.ascent + row,
          env.rs.glyphBase + i.offset + BitVec.ofNat 32 (row * ((i.width + 7) / 8))⟩ ∧
        env.first ≤ g.gridRow ∧ g.gridRow ≤ env.last ∧
        Y - ascent ≤ g.gridRow ∧ g.gridRow ≤ Y + descent - 1) ∧
    (∀ (ascent descent : Nat) (before rest : List GlyphItem) (i : GlyphItem),
      env.glyphRows o ascent descent (before ++ rest) =
        env.glyphRows o ascent descent before ++ env.glyphRows o ascent descent rest ∧
      (env.glyphRows o ascent descent [i]).Pairwise fun g g' => g.gridRow < g'.gridRow) ∧
    (∀ gathered : List (GlyphRow × List Byte),
      let under (g : GlyphRow × List Byte) :=
        g ∈ gathered ∧ g.1.gridRow = y ∧ g.1.pen ≤ x ∧ x < g.1.pen + g.1.width
      let ink (g : GlyphRow × List Byte) := ((g.2.getD ((x - g.1.pen).toNat / 8) 0#8).getMsbD
        ((x - g.1.pen).toNat % 8)) = true
      (textMarks gathered x y = none ↔ ¬∃ g, under g) ∧
      (textMarks gathered x y = some true ↔ ∃ g, under g ∧ ink g)) ∧
    (∀ (module h : Nat) (runs : List Byte) (k : Nat) (run : Byte), runs[k]? = some run →
      let start : Int := X + ((((runs.take k).map BitVec.toNat).sum * module : Nat) : Int)
      start ≤ x → x < start + (run.toNat * module : Nat) → Y ≤ y → y < Y + h →
      env.barsMarks o h (layoutBars module X true runs) x y = some (decide (k % 2 = 0))) ∧
    (∀ (module h : Nat) (runs : List Byte),
      (x < X ∨ X + (((runs.map BitVec.toNat).sum * module : Nat) : Int) ≤ x ∨ y < Y ∨ Y + h ≤ y) →
      env.barsMarks o h (layoutBars module X true runs) x y = none)

/-- The stepped points of a STROKE and its covered set (R10, R11, R42 to R44): its ends are its two points
moved by the origin; along the major axis one position a step from the first end to the other; the minor
offset is the integer nearest k·m/M, halves toward the start; the covered set is the union of the squares
at the points, marked by the pattern or as ink. -/
def Obligations.StrokePoints : Prop :=
  (∀ t : StrokeLine,
    t.point 0 = (t.x0, t.y0) ∧ t.point t.major = (t.x1, t.y1) ∧
    (∀ k ≤ t.major, 0 < t.major →
      t.minorStep k = (2 * k * t.minor + t.major - 1) / (2 * t.major) ∧
      2 * k * t.minor ≤ (2 * t.minorStep k + 1) * t.major ∧
      (0 < t.minorStep k → (2 * t.minorStep k - 1) * t.major < 2 * k * t.minor) ∧
      (t.dy ≤ t.dx → t.point k =
        (t.x0 + k * (t.x1 - t.x0).sign, t.y0 + t.minorStep k * (t.y1 - t.y0).sign)) ∧
      (t.dx < t.dy → t.point k =
        (t.x0 + t.minorStep k * (t.x1 - t.x0).sign, t.y0 + k * (t.y1 - t.y0).sign))) ∧
    ∀ (w : Nat) (x y : Int), t.covers w x y = true ↔
      ∃ k ≤ t.major, ∃ i < w, ∃ j < w,
        x = (t.point k).1 + (i : Nat) ∧ y = (t.point k).2 + (j : Nat)) ∧
  ∀ (env : PaintEnv) (o : ObjectFields) (x1 y1 : Int) (w : Nat) (x y : Int),
    let t : StrokeLine := ⟨o.x + env.rs.originX, o.y + env.rs.originY, x1 + env.rs.originX,
      y1 + env.rs.originY⟩
    let fill := o.pattern = false ∨ env.rs.pattern.getLsbD (8 * (y % 8).toNat + (x % 8).toNat) = true
    t.major = max (t.x1 - t.x0).natAbs (t.y1 - t.y0).natAbs ∧
    t.minor = min (t.x1 - t.x0).natAbs (t.y1 - t.y0).natAbs ∧
    env.strokeMarks o x1 y1 w x y = if t.covers w x y then some (decide fill) else none

/-! ### The end and the cut of a band render -/

/-- The end of a band render after RETIRE (R30, R31, R64, R65, R75, R128 to R130): the entries whose
bottom is above the next band leave the table. A label's buffer goes READY at the queue's tail, or FREE
when all its rows lie above the cursor, and its last band makes it RENDERED with its context and table
emptied. The image's buffer goes DRAINING and the write of its first row is issued within the same command
(log 27); its last band empties its context and table. That a buffer that goes FREE keeps its index, first
row and count (log 28), and that an emptied context has list address, object count and next index 0 (log
32), are the model's choices. -/
def Obligations.BandRenderEnds : Prop :=
  ∀ (p : SetupParams) (r : RenderRecord) (s : State), s.resetHeld = false →
    s.engine.params = some p → (s.engine.state = .running ∨ s.engine.state = .draining) →
    s.render = some r → r.step = .retire → r.cutPending = false →
    let b := s.bands.get r.buffer
    let kept := (s.tables.get r.side).filter fun e => decide ((r.last : Int) < e.bottom)
    let empty : WalkerContext := ⟨none, 0#32, 0, 0, none⟩
    (∀ l, r.job = .label l.ringIndex → r.side = .print → s.onlyLabel l →
      let lastBand := bandCount l.length p.bandHeight ≤ l.nextBand + 1
      exec .bandRenderEnd s = .next ({ s with
        bands := s.bands.set r.buffer
          (if r.last < l.cursor then { b with state := .free, owner := none }
          else { b with state := .ready })
        printQueue := if r.last < l.cursor then s.printQueue else s.printQueue ++ [r.buffer]
        render := none
        labels := replaceLabel s.labels l { l with
          nextBand := l.nextBand + 1
          renderStatus := if lastBand then .rendered else l.renderStatus }
        walkers := if lastBand then ⟨empty, s.walkers.image⟩ else s.walkers
        tables := ⟨if lastBand then [] else kept, s.tables.image⟩ } : State).settle) ∧
    (∀ j, r.job = .image → r.side = .image → s.image = some j →
      let lastBand := bandCount j.height p.bandHeight ≤ j.nextBand + 1
      exec .bandRenderEnd s = .next ({ s with
        bands := s.bands.set r.buffer { b with state := .draining }
        render := none
        image := some { j with
          phase := .writing
          nextBand := j.nextBand + 1
          write := some ⟨b.first, j.destination + BitVec.ofNat 32 (b.first * j.stride),
            rowBytes (firstDots j.width (b.rows.getD 0 0#dotsPerRow)) ((j.width + 7) / 8)⟩ }
        walkers := if lastBand then ⟨s.walkers.print, empty⟩ else s.walkers
        tables := ⟨s.tables.print, if lastBand then [] else kept⟩ } : State).settle)

/-- A band render is cut only at a boundary after its job's end (R76, R98, R127): the buffer goes FREE
without being READY or DRAINING, the record is discarded, the walker context and table are emptied; a
label is CUT, and the image job leaves flight with its entry finished. That the FREE buffer keeps its
index, first row and count (log 28), and that the emptied context has list address, object count and next
index 0 (log 32), are the model's choices. -/
def Obligations.BandRenderCuts : Prop :=
  ∀ (r : RenderRecord) (s : State), s.resetHeld = false →
    (s.engine.state = .running ∨ s.engine.state = .draining) → s.render = some r →
    ((r.cutPending = false ∨ r.read ≠ .none) → exec .bandRenderCut s = .next s.settle) ∧
    (r.cutPending = true → r.read = .none →
      let cut : State := { s with
        bands := s.bands.set r.buffer { s.bands.get r.buffer with state := .free, owner := none }
        render := none
        walkers := s.walkers.set r.side ⟨none, 0#32, 0, 0, none⟩
        tables := s.tables.set r.side [] }
      (∀ l, r.job = .label l.ringIndex → s.onlyLabel l →
        exec .bandRenderCut s = .next ({ cut with
          labels := replaceLabel s.labels l { l with renderStatus := .cut } } : State).settle) ∧
      (∀ j st, r.job = .image → s.image = some j → j.report.status = some st →
        exec .bandRenderCut s = .next ({ cut with
          image := none
          completion := { s.completion with
            retire := ⟨s.completion.retire.print, s.completion.retire.image.map fun e =>
              if e.ringIndex = j.ringIndex ∧ e.results = none then
                { e with results := some ⟨st, { j.report.warnings with padded := false }, 0,
                  j.signature, j.report.admitted, j.report.faultIndex⟩ }
              else e⟩ } } : State).settle))

/-! ### Writeback -/

/-- The end of a row write in RUNNING or DRAINING (R129 to R134): acknowledged, the row's bytes are fed to
the signature and the next row of the band is issued within the same command (DEDUCED, log 27); after the
band's last row the buffer is FREE and the job asks for its next band, or, after its last band, leaves
flight OK. A bus error ends the job with WRITE_ERROR and no row fed, and a job whose status is set leaves
flight with it; both free the buffer. That it keeps its index, first row and count (log 28), and that the
emptied context has list address, object count and next index 0 (log 32), are the model's choices. A row's
bytes are its first width dots, dot 8k + i in bit 7 - i of byte k, the bits beyond them 0 (R4, R130). -/
def Obligations.RowWriteEnds : Prop :=
  (∀ (row : Row) (width : Nat), width ≤ 2048 →
    let bytes := rowBytes (firstDots width row) ((width + 7) / 8)
    bytes.length = (width + 7) / 8 ∧
    ∀ k < (width + 7) / 8, ∀ i < 8, (bytes.getD k 0#8).getLsbD (7 - i) =
      (decide (8 * k + i < width) && row.getMsbD (8 * k + i))) ∧
  ∀ (result : BusWrite) (p : SetupParams) (j : ImageJob) (w : RowWrite) (i : BufferId) (s : State),
    s.resetHeld = false → s.engine.params = some p →
    (s.engine.state = .running ∨ s.engine.state = .draining) → s.image = some j →
    j.phase = .writing → j.write = some w → j.buffer = some i → s.rendersJob .image = false →
    let b := s.bands.get i
    let fed := crcFeed j.signature w.bytes
    let freed := s.bands.set i { b with state := .free, owner := none }
    let left (st : Status) (sig faultIndex : Half) (emptied : Bool) : State := { s with
      bands := freed
      image := none
      walkers :=
        if emptied then ⟨s.walkers.print, ⟨none, 0#32, 0, 0, none⟩⟩ else s.walkers
      tables := if emptied then ⟨s.tables.print, []⟩ else s.tables
      completion := { s.completion with
        retire := ⟨s.completion.retire.print, s.completion.retire.image.map fun e =>
          if e.ringIndex = j.ringIndex ∧ e.results = none then
            { e with results := some ⟨st, { j.report.warnings with padded := false }, 0, sig,
              j.report.admitted, faultIndex⟩ }
          else e⟩ } }
    (∀ st, j.report.status = some st →
      exec (.rowWriteEnd result) s =
        .next (left st j.signature j.report.faultIndex false).settle) ∧
    (j.report.status = none → result = .busError →
      exec (.rowWriteEnd result) s =
        .next (left .writeError j.signature 0xFFFF#16 true).settle) ∧
    (j.report.status = none → result = .acknowledged → w.row + 1 < b.first + b.count →
      exec (.rowWriteEnd result) s = .next ({ s with
        image := some { j with
          signature := fed
          write := some ⟨w.row + 1, j.destination + BitVec.ofNat 32 ((w.row + 1) * j.stride),
            rowBytes (firstDots j.width (b.rows.getD (w.row + 1 - b.first) 0#dotsPerRow))
              ((j.width + 7) / 8)⟩ } } : State).settle) ∧
    (j.report.status = none → result = .acknowledged → b.first + b.count ≤ w.row + 1 →
      (bandCount j.height p.bandHeight ≤ j.nextBand →
        exec (.rowWriteEnd result) s = .next (left .ok fed 0xFFFF#16 true).settle) ∧
      (j.nextBand < bandCount j.height p.bandHeight →
        exec (.rowWriteEnd result) s = .next ({ s with
          bands := freed
          image := some { j with
            signature := fed, phase := .requesting, buffer := none, write := none } } :
          State).settle))

/-! ### Printing -/

/-- ROW_STEP and MARK by the head-current label (R101, R102, R104): with none, or one WAITING, both are
ignored; ALIGNING, a ROW_STEP is counted, and at the mark search limit ends the label with NO_MARK, while
a MARK makes it PRINTING; PRINTING, a MARK is ignored, and so is a ROW_STEP with every row passed. -/
def Obligations.StepsAndMarks : Prop :=
  ∀ s : State, s.resetHeld = false →
    ((s.engine.state ≠ .running ∧ s.engine.state ≠ .draining) ∨ headCurrent s.labels = none →
      exec .rowStep s = .next s.settle ∧ exec .mark s = .next s.settle) ∧
    (∀ l p, (s.engine.state = .running ∨ s.engine.state = .draining) → s.engine.params = some p →
      headCurrent s.labels = some l → s.onlyLabel l →
      (l.printStatus = .waiting →
        exec .rowStep s = .next s.settle ∧ exec .mark s = .next s.settle) ∧
      (l.printStatus = .aligning →
        exec .mark s = .next ({ s with
          labels := replaceLabel s.labels l { l with printStatus := .printing } } : State).settle ∧
        (l.steps + 1 < l.markLimit →
          exec .rowStep s = .next ({ s with
            labels := replaceLabel s.labels l { l with steps := l.steps + 1 } } :
            State).settle) ∧
        (l.markLimit ≤ l.steps + 1 →
          exec .rowStep s = .next (({ s with
            labels := replaceLabel s.labels l { l with steps := l.steps + 1 } } :
            State).endLabel l.ringIndex .noMark 0xFFFF#16).settle)) ∧
      (l.printStatus = .printing →
        exec .mark s = .next s.settle ∧
        (l.length ≤ l.cursor → exec .rowStep s = .next s.settle)))

/-- A row due (R66 to R68, R105 to R107, R109, R110, R112). With no delivery in flight it is delivered
from the PRINTING buffer, or from the READY buffer at the queue head, which becomes PRINTING, the plane
being the row's first W dots, shifted within the command (log 22), and the boost plane its ink where both
history rows are paper. In neither, or with a delivery in flight, the row is an underrun: under PAD it is
padded, in a delivery of its own or in the pending one, and passed buffers go FREE; under ABORT the label
ends with UNDERRUN. That a row which only the queue head holds, while another buffer is PRINTING, is an
underrun (log 30), and that a FREE buffer keeps its index, first row and count (log 28), are the model's.
-/
def Obligations.DueRows : Prop :=
  (∀ (row : Row) (n x : Nat), n ≤ 2048 →
    (firstDots n row).getMsbD x = (decide (x < n) && row.getMsbD x)) ∧
  ∀ (p : SetupParams) (l : LabelEntry) (s : State), s.resetHeld = false → s.engine.params = some p →
    (s.engine.state = .running ∨ s.engine.state = .draining) →
    headCurrent s.labels = some l → s.onlyLabel l → l.printStatus = .printing →
    l.cursor < l.length →
    let holds (b : BandBuffer) := b.owner = some (.label l.ringIndex) ∧ b.first ≤ l.cursor ∧
      l.cursor < b.first + b.count
    let plane (b : BandBuffer) : Row :=
      firstDots p.headWidth (b.rows.getD (l.cursor - b.first) 0#dotsPerRow)
    let sent (i : BufferId) : State := { s with
      labels := replaceLabel s.labels l
        { l with cursor := l.cursor + 1, rowsSent := l.rowsSent + 1 }
      head := { s.head with
        delivery := some ⟨l.ringIndex, .row i, .mainBurn, plane (s.bands.get i),
          plane (s.bands.get i) &&& ~~~s.head.h1 &&& ~~~s.head.h2⟩ } }
    let passed (printing : Bool) (b : BandBuffer) : Bool :=
      decide (b.owner = some (.label l.ringIndex) ∧ b.first + b.count ≤ l.cursor + 1) &&
        (decide (b.state = .ready) || (decide (b.state = .printing) && printing))
    let padded (h : HeadPort) (printing : Bool) : State := { s with
      labels := replaceLabel s.labels l { l with
        cursor := l.cursor + 1
        rowsPadded := l.rowsPadded + 1
        report := { l.report with warnings := { l.report.warnings with padded := true } } }
      head := h
      bands := s.bands.freed (passed printing)
      printQueue := s.printQueue.filter fun i => !passed printing (s.bands.get i) }
    let joined : PendingPad :=
      match s.head.pendingPad with | none => ⟨l.ringIndex, 1⟩ | some q => ⟨q.label, q.rows + 1⟩
    let underrun : Prop :=
      (∀ i, s.bands.printingBuffer = some i → ¬holds (s.bands.get i)) ∧
      (s.bands.printingBuffer = none → ∀ i rest, s.printQueue = i :: rest → ¬holds (s.bands.get i))
    (s.head.delivery = none →
      (∀ i, s.bands.printingBuffer = some i → holds (s.bands.get i) →
        exec .rowStep s = .next (sent i).settle) ∧
      (∀ i rest, s.bands.printingBuffer = none → s.printQueue = i :: rest →
        holds (s.bands.get i) →
        exec .rowStep s = .next ({ sent i with
          bands := s.bands.set i { s.bands.get i with state := .printing }
          printQueue := rest } : State).settle) ∧
      (underrun → l.pad = true →
        exec .rowStep s = .next (padded { s.head with
          delivery := some
            ⟨l.ringIndex, .padded 1, .mainBurn, 0#dotsPerRow, 0#dotsPerRow⟩ } true).settle) ∧
      (underrun → l.pad = false →
        exec .rowStep s = .next (s.endLabel l.ringIndex .underrun 0xFFFF#16).settle)) ∧
    (∀ d, s.head.delivery = some d →
      (l.pad = true → (∀ i, d.kind ≠ .row i) →
        exec .rowStep s = .next (padded { s.head with pendingPad := some joined } true).settle) ∧
      (∀ i, l.pad = true → d.kind = .row i → (∀ k, (s.bands.get k).state = .printing → k = i) →
        exec .rowStep s = .next (padded { s.head with pendingPad := some joined } false).settle) ∧
      (l.pad = false →
        exec .rowStep s = .next (s.endLabel l.ringIndex .underrun 0xFFFF#16).settle))

/-- The burns and the end of a delivery (R106 to R108, R111, R115, R121): the end of BURN_MAIN begins the
boost phase when the width is not 0 and the boost plane has ink, else it ends the delivery, as the end of
BURN_BOOST does. Then the history moves on, a PRINTING label's signature takes the delivery's bytes, its
passed buffers go FREE, and the pending padded delivery begins, or the label ends OK with all rows passed.
The signature is the CRC-16 of the Conventions over the row's bytes (R4, R115). That the delivery stands
in a burn right after the command (log 22), and that a FREE buffer keeps its index, first row and count
(log 28), are the model's choices. -/
def Obligations.DeliveryEnds : Prop :=
  (∀ (sig : Half) (bytes : List Byte) (b : Byte),
    let shift (c : Half) : Half := if c.getLsbD 15 then (c <<< 1) ^^^ 0x1021#16 else c <<< 1
    crcFeed sig [] = sig ∧
    crcFeed sig (bytes ++ [b]) = shift (shift (shift (shift (shift (shift (shift (shift
      (crcFeed sig bytes ^^^ (b ++ 0#8)))))))))) ∧
  (∀ (row : Row) (n : Nat), n ≤ 256 → (rowBytes row n).length = n ∧
    ∀ k < n, ∀ i < 8, ((rowBytes row n).getD k 0#8).getLsbD (7 - i) = row.getMsbD (8 * k + i)) ∧
  ∀ (p : SetupParams) (d : Delivery) (l : LabelEntry) (s : State), s.resetHeld = false →
    s.engine.params = some p → (s.engine.state = .running ∨ s.engine.state = .draining) →
    s.head.delivery = some d → d.label = l.ringIndex → s.onlyLabel l →
    let boosted := p.burnBoost ≠ 0 ∧ d.boost ≠ 0#dotsPerRow
    let bytes := match d.kind with
      | .row _ => rowBytes d.main (p.headWidth / 8)
      | .padded n => List.replicate (n * (p.headWidth / 8)) 0#8
    let fed : LabelEntry :=
      if l.printStatus = .printing then { l with signature := crcFeed l.signature bytes } else l
    let after : HeadPort := { s.head with
      delivery := none
      h1 := match d.kind with | .row _ => d.main | .padded _ => 0#dotsPerRow
      h2 := match d.kind with
        | .row _ => s.head.h1
        | .padded n => if n = 1 then s.head.h1 else 0#dotsPerRow }
    let passed (b : BandBuffer) : Bool := decide (b.owner = some (.label l.ringIndex) ∧
      b.first + b.count ≤ l.cursor ∧ (b.state = .ready ∨ b.state = .printing))
    let ended (h : HeadPort) : State := { s with
      head := h
      labels := replaceLabel s.labels l fed
      bands := s.bands.freed passed
      printQueue := s.printQueue.filter fun i => !passed (s.bands.get i) }
    let ends (c : Instr) : Prop :=
      (∀ n, s.head.pendingPad = some ⟨l.ringIndex, n⟩ →
        exec c s = .next (ended { after with
          delivery := some ⟨l.ringIndex, .padded n, .mainBurn, 0#dotsPerRow, 0#dotsPerRow⟩
          pendingPad := none }).settle) ∧
      ((∀ q, s.head.pendingPad = some q → q.label ≠ l.ringIndex) →
        ((l.printStatus ≠ .printing ∨ l.rowsSent + l.rowsPadded ≠ l.length) →
          exec c s = .next (ended after).settle) ∧
        (l.printStatus = .printing → l.rowsSent + l.rowsPadded = l.length →
          exec c s = .next ((ended after).endLabel l.ringIndex .ok 0xFFFF#16).settle))
    (d.phase = .mainBurn → boosted →
      exec .burnMainEnd s = .next ({ s with
        head := { s.head with delivery := some { d with phase := .boostBurn } } } : State).settle) ∧
    (d.phase = .mainBurn → ¬boosted → ends .burnMainEnd) ∧
    (d.phase = .boostBurn → ends .burnBoostEnd)

/-- The end of a label by any reason (R69, R98, R118, R119): ENDED with the status and fault index, its
READY and PRINTING buffers FREE together and out of the queue, its pending padded delivery discarded, the
delivery in flight left to finish; its band render is to be cut, or, RENDERING between bands, it is CUT
with its context and table emptied; LOADING, it stays so until its read completes (R92, R98 against R114:
DEDUCED, log 14). That a FREE buffer keeps its index, first row and count (log 28), and that the emptied
context has list address, object count and next index 0 (log 32), are the model's choices. A label already
ENDED is not changed. -/
def Obligations.LabelEnds : Prop :=
  ∀ (l : LabelEntry) (st : Status) (faultIndex : Half) (s : State), s.onlyLabel l →
    (l.printStatus = .ended → s.endLabel l.ringIndex st faultIndex = s) ∧
    (l.printStatus ≠ .ended →
      let renders := s.rendersJob (.label l.ringIndex) = true
      let cut := ¬renders ∧ l.renderStatus = .rendering
      let back (b : BandBuffer) : Bool := decide (b.owner = some (.label l.ringIndex) ∧
        (b.state = .ready ∨ b.state = .printing))
      s.endLabel l.ringIndex st faultIndex = { s with
        labels := replaceLabel s.labels l { l with
          printStatus := .ended
          renderStatus := if cut then .cut else l.renderStatus
          report := { l.report with status := some st, faultIndex := faultIndex } }
        bands := s.bands.freed back
        printQueue := s.printQueue.filter fun i => !back (s.bands.get i)
        head := { s.head with pendingPad := s.head.pendingPad.filter fun q => q.label ≠ l.ringIndex }
        render := if renders then s.render.map fun r => { r with cutPending := true } else s.render
        walkers :=
          if cut then ⟨⟨none, 0#32, 0, 0, none⟩, s.walkers.image⟩ else s.walkers
        tables := if cut then ⟨[], s.tables.image⟩ else s.tables })

/-- A label's way in and out of the head port (R97, R122): WAITING is left by the head-current label when
no delivery is in flight and none pending, with the history cleared and its steps at 0; a label ENDED and
RENDERED or CUT leaves the list, the others keeping their order, with its results in its retire entry.
Which of several leaves first is the model's choice (log 17). -/
def Obligations.LabelStartsAndLeaves : Prop :=
  ∀ (l : LabelEntry) (s : State), s.resetHeld = false →
    (s.engine.state = .running ∨ s.engine.state = .draining) → s.onlyLabel l →
    (headCurrent s.labels = some l →
      (l.printStatus = .waiting → s.head.delivery = none → s.head.pendingPad = none →
        exec .leaveWaiting s = .next ({ s with
          labels := replaceLabel s.labels l
            { l with steps := 0, printStatus := if l.align then .aligning else .printing }
          head := { s.head with h1 := 0#dotsPerRow, h2 := 0#dotsPerRow } } : State).settle) ∧
      ((l.printStatus ≠ .waiting ∨ s.head.delivery ≠ none ∨ s.head.pendingPad ≠ none) →
        exec .leaveWaiting s = .next s.settle)) ∧
    (∀ before rest st, s.labels = before ++ l :: rest → l.report.status = some st →
      (∀ m ∈ before, m.printStatus ≠ .ended ∨ (m.renderStatus ≠ .rendered ∧ m.renderStatus ≠ .cut)) →
      l.printStatus = .ended → (l.renderStatus = .rendered ∨ l.renderStatus = .cut) →
      exec .labelLeavesList s = .next ({ s with
        labels := before ++ rest
        completion := { s.completion with
          retire := ⟨s.completion.retire.print.map fun e =>
            if e.ringIndex = l.ringIndex ∧ e.results = none then
              { e with results := some ⟨st, l.report.warnings, l.rowsPadded, l.signature,
                l.report.admitted, l.report.faultIndex⟩ }
            else e, s.completion.retire.image⟩ } } : State).settle)

/-! ### Completions -/

/-- The 16 bytes of a completion record (R176, R177, Table 11-7), byte k at bits 8k+7..8k. -/
def Obligations.CompletionRecordBytes : Prop :=
  ∀ (r : Ring) (e : RetireEntry) (res : Results),
    let d := completionRecord r e res
    d.extractLsb' 0 16 = e.tag ∧ d.extractLsb' 16 16 = e.ringIndex ∧
    d.extractLsb' 32 8 = e.kind ∧
    (d.extractLsb' 40 8).toNat = (match res.status with
      | .ok => 0 | .aborted => 1 | .flushed => 2 | .badKind => 3 | .badDescriptor => 4
      | .stateFault => 5 | .objectFault => 6 | .fetchError => 7 | .writeError => 8
      | .tableFull => 9 | .underrun => 10 | .noMark => 11) ∧
    (d.extractLsb' 48 8).toNat = (match r with | .print => 0 | .image => 1) ∧
    d.getLsbD 56 = res.warnings.lateObject ∧ d.getLsbD 57 = res.warnings.shortSource ∧
    d.getLsbD 58 = res.warnings.glyphMissing ∧ d.getLsbD 59 = res.warnings.padded ∧
    d.extractLsb' 60 4 = 0#4 ∧
    d.extractLsb' 64 16 = BitVec.ofNat 16 res.rowsPadded ∧ d.extractLsb' 80 16 = res.signature ∧
    d.extractLsb' 96 16 = BitVec.ofNat 16 res.admitted ∧ d.extractLsb' 112 16 = res.faultIndex

/-- The completion write (R171 to R174, R179, R180, R194): the port, when free, takes the ready record at
the head of a ring's queue, by the turn when both are ready, and writes it at the slot of CPOST. Posted,
CPOST advances, the reservation becomes an unconsumed record, and COMPLETION is set or the timer started.
Lost to a bus error, the engine is HALTED for that ring with ENGINE_FAULT, the port cleared and the
delivery stopped (log 15), CPOST and the queues as they were. -/
def Obligations.CompletionWrites : Prop :=
  ∀ (p : SetupParams) (s : State), s.resetHeld = false → s.engine.params = some p →
    (s.engine.state = .running ∨ s.engine.state = .draining) →
    let c := s.completion
    let writing (r : Ring) (e : RetireEntry) (res : Results) (turn : Ring) : State := { s with
      completion := { c with
        postingTurn := turn
        write := some ⟨r,
          p.completionBase + BitVec.ofNat 32 (16 * (c.cpost.toNat % p.completionSize)),
          completionRecord r e res⟩ } }
    (c.write = none →
      (∀ r e res, s.readyRecord r = some (e, res) → s.readyRecord r.other = none →
        exec .completionWriteStart s = .next (writing r e res c.postingTurn).settle) ∧
      (∀ e res e' res', s.readyRecord .print = some (e, res) →
        s.readyRecord .image = some (e', res') →
        exec .completionWriteStart s = .next (match c.postingTurn with
          | .print => (writing .print e res .image).settle
          | .image => (writing .image e' res' .print).settle)) ∧
      ((∀ r, s.readyRecord r = none) → exec .completionWriteStart s = .next s.settle)) ∧
    (∀ w, c.write = some w →
      let posted : CompletionUnit := { c with
        cpost := c.cpost + 1#16
        reserved := c.reserved - 1
        retire := c.retire.set w.ring (c.retire.get w.ring).tail
        write := none }
      let unconsumed := (c.cpost + 1#16 - c.cread).toNat
      exec .completionWriteStart s = .next s.settle ∧
      (p.coalesceCount ≤ unconsumed →
        exec (.completionWriteEnd .acknowledged) s = .next ({ s with
          cause := s.cause ||| 0b000001#6
          completion := { posted with timer := none } } : State).settle) ∧
      (unconsumed < p.coalesceCount →
        (p.coalesceTime = 0 ∨ c.timer ≠ none ∨ s.cause.getLsbD 0 = true) →
        exec (.completionWriteEnd .acknowledged) s =
          .next ({ s with completion := posted } : State).settle) ∧
      (unconsumed < p.coalesceCount → p.coalesceTime ≠ 0 → c.timer = none →
        s.cause.getLsbD 0 = false →
        exec (.completionWriteEnd .acknowledged) s = .next ({ s with
          completion := { posted with timer := some p.coalesceTime } } : State).settle) ∧
      ∃ t, exec (.completionWriteEnd .busError) s = .next t ∧
        t = ({ s with
          engine := { s.engine with
            state := .halted
            haltReason := match w.ring with | .print => .printRecord | .image => .imageRecord
            discarded := t.engine.discarded }
          cause := s.cause ||| 0b000100#6
          completion := { c with write := none }
          head := { s.head with delivery := none }
          freeCount := t.freeCount } : State).settle ∧
        s.engine.discarded ≤ t.engine.discarded)

/-! ### Invariants -/

/-- Every block has what Safety.lean says of it at reset. -/
def Obligations.ResetIsSound : Prop :=
  WindowSound State.reset ∧ SlotAccounting State.reset ∧ RingsSound State.reset ∧
  LabelsSound State.reset ∧ RenderStatesInRange State.reset ∧ TablesSound State.reset ∧
  BandsSound State.reset

/-- Every step keeps the pins at their levels and SETUP aligned (R117, R182, R200). -/
def Obligations.StepKeepsWindow : Prop :=
  ∀ s t : State, WindowSound s → step s = .next t → WindowSound t

/-- Every step keeps the slot accounting: no slot is promised twice (R166, R168, R170). -/
def Obligations.StepKeepsSlots : Prop :=
  ∀ s t : State, SlotAccounting s → step s = .next t → SlotAccounting t

/-- Every step keeps an unfaulted ring within its size and a flush boundary between its indices (R139,
R142, R160, R162). -/
def Obligations.StepKeepsRings : Prop :=
  ∀ s t : State, RingsSound s → step s = .next t → RingsSound t

/-- Every step keeps the label list and the retire queues in take order, with the rows of each label
accounted for (R94, R121, R152, R170 to R173). -/
def Obligations.StepKeepsLabels : Prop :=
  ∀ s t : State, SlotAccounting s → LabelsSound s → step s = .next t → LabelsSound t

/-- Every step keeps every render-state value in its range (R81, R85). -/
def Obligations.StepKeepsRenderStates : Prop :=
  ∀ s t : State, RenderStatesInRange s → step s = .next t → RenderStatesInRange t

/-- Every step keeps both tables in list order with at most 32 entries (R20, R27, R28). -/
def Obligations.StepKeepsTables : Prop :=
  ∀ s t : State, TablesSound s → step s = .next t → TablesSound t

/-- Every step keeps the band buffers in agreement with the render, the queue and the image job (R62, R70,
R75, R127). -/
def Obligations.StepKeepsBands : Prop :=
  ∀ s t : State, BandsSound s → step s = .next t → BandsSound t

end
end

