-- ==== Sys2Proof/Laws/State.lean ====
section
/-! SUPPORT. The small lemmas of State: pairs and buffers read after a write, and one lemma per field
per named update. -/

namespace Sys2Proof.Machine

/-! ### One value per ring -/

@[simp] theorem PerRing.get_set_self {α : Type} (p : PerRing α) (r : Ring) (a : α) :
    (p.set r a).get r = a := by cases r <;> rfl
@[simp] theorem PerRing.get_set_other {α : Type} (p : PerRing α) (r : Ring) (a : α) :
    (p.set r a).get r.other = p.get r.other := by cases r <;> rfl
theorem PerRing.get_set_of_ne {α : Type} (p : PerRing α) {r q : Ring} (a : α) (h : q ≠ r) :
    (p.set r a).get q = p.get q := by cases r <;> cases q <;> first | rfl | exact absurd rfl h
theorem PerRing.get_set {α : Type} (p : PerRing α) (r q : Ring) (a : α) :
    (p.set r a).get q = if q = r then a else p.get q := by cases r <;> cases q <;> rfl
@[simp] theorem PerRing.get_print {α : Type} (p : PerRing α) : p.get .print = p.print := rfl
@[simp] theorem PerRing.get_image {α : Type} (p : PerRing α) : p.get .image = p.image := rfl
@[simp] theorem PerRing.set_print_print {α : Type} (p : PerRing α) (a : α) :
    (p.set .print a).print = a := rfl
@[simp] theorem PerRing.set_print_image {α : Type} (p : PerRing α) (a : α) :
    (p.set .print a).image = p.image := rfl
@[simp] theorem PerRing.set_image_print {α : Type} (p : PerRing α) (a : α) :
    (p.set .image a).print = p.print := rfl
@[simp] theorem PerRing.set_image_image {α : Type} (p : PerRing α) (a : α) :
    (p.set .image a).image = a := rfl
theorem PerRing.ext_get {α : Type} {p q : PerRing α} (h : ∀ r, p.get r = q.get r) : p = q := by
  cases p; cases q; exact congr (congrArg _ (h .print)) (h .image)

/-! ### The four buffers -/

@[simp] theorem Bands.get_set_self (b : Bands) (i : BufferId) (x : BandBuffer) :
    (b.set i x).get i = x := by
  match i with
  | 0 => rfl
  | 1 => rfl
  | 2 => rfl
  | 3 => rfl
theorem Bands.get_set_of_ne (b : Bands) {i j : BufferId} (x : BandBuffer) (h : j ≠ i) :
    (b.set i x).get j = b.get j := by
  fin_cases i <;> fin_cases j <;> first | rfl | exact absurd rfl h
theorem Bands.get_set (b : Bands) (i j : BufferId) (x : BandBuffer) :
    (b.set i x).get j = if j = i then x else b.get j := by
  split
  · next h => subst h; exact b.get_set_self _ x
  · next h => exact b.get_set_of_ne x h
theorem mem_bufferIds (i : BufferId) : i ∈ bufferIds := by fin_cases i <;> decide

/-! ### One lemma per field per named update -/

section setEngine

variable (s : State) (x : EngineControl)

@[simp] theorem State.setEngine_resetHeld : (s.setEngine x).resetHeld = s.resetHeld := rfl
@[simp] theorem State.setEngine_setup : (s.setEngine x).setup = s.setup := rfl
@[simp] theorem State.setEngine_cause : (s.setEngine x).cause = s.cause := rfl
@[simp] theorem State.setEngine_ien : (s.setEngine x).ien = s.ien := rfl
@[simp] theorem State.setEngine_engine : (s.setEngine x).engine = x := rfl
@[simp] theorem State.setEngine_rings : (s.setEngine x).rings = s.rings := rfl
@[simp] theorem State.setEngine_completion : (s.setEngine x).completion = s.completion := rfl
@[simp] theorem State.setEngine_renderStates : (s.setEngine x).renderStates = s.renderStates := rfl
@[simp] theorem State.setEngine_loads : (s.setEngine x).loads = s.loads := rfl
@[simp] theorem State.setEngine_walkers : (s.setEngine x).walkers = s.walkers := rfl
@[simp] theorem State.setEngine_tables : (s.setEngine x).tables = s.tables := rfl
@[simp] theorem State.setEngine_bands : (s.setEngine x).bands = s.bands := rfl
@[simp] theorem State.setEngine_printQueue : (s.setEngine x).printQueue = s.printQueue := rfl
@[simp] theorem State.setEngine_render : (s.setEngine x).render = s.render := rfl
@[simp] theorem State.setEngine_labels : (s.setEngine x).labels = s.labels := rfl
@[simp] theorem State.setEngine_head : (s.setEngine x).head = s.head := rfl
@[simp] theorem State.setEngine_image : (s.setEngine x).image = s.image := rfl
@[simp] theorem State.setEngine_pins : (s.setEngine x).pins = s.pins := rfl
@[simp] theorem State.setEngine_freeCount : (s.setEngine x).freeCount = s.freeCount := rfl
@[simp] theorem State.setEngine_pending : (s.setEngine x).pending = s.pending := rfl

end setEngine

section setCompletion

variable (s : State) (x : CompletionUnit)

@[simp] theorem State.setCompletion_resetHeld : (s.setCompletion x).resetHeld = s.resetHeld := rfl
@[simp] theorem State.setCompletion_setup : (s.setCompletion x).setup = s.setup := rfl
@[simp] theorem State.setCompletion_cause : (s.setCompletion x).cause = s.cause := rfl
@[simp] theorem State.setCompletion_ien : (s.setCompletion x).ien = s.ien := rfl
@[simp] theorem State.setCompletion_engine : (s.setCompletion x).engine = s.engine := rfl
@[simp] theorem State.setCompletion_rings : (s.setCompletion x).rings = s.rings := rfl
@[simp] theorem State.setCompletion_completion : (s.setCompletion x).completion = x := rfl
@[simp] theorem State.setCompletion_renderStates : (s.setCompletion x).renderStates = s.renderStates := rfl
@[simp] theorem State.setCompletion_loads : (s.setCompletion x).loads = s.loads := rfl
@[simp] theorem State.setCompletion_walkers : (s.setCompletion x).walkers = s.walkers := rfl
@[simp] theorem State.setCompletion_tables : (s.setCompletion x).tables = s.tables := rfl
@[simp] theorem State.setCompletion_bands : (s.setCompletion x).bands = s.bands := rfl
@[simp] theorem State.setCompletion_printQueue : (s.setCompletion x).printQueue = s.printQueue := rfl
@[simp] theorem State.setCompletion_render : (s.setCompletion x).render = s.render := rfl
@[simp] theorem State.setCompletion_labels : (s.setCompletion x).labels = s.labels := rfl
@[simp] theorem State.setCompletion_head : (s.setCompletion x).head = s.head := rfl
@[simp] theorem State.setCompletion_image : (s.setCompletion x).image = s.image := rfl
@[simp] theorem State.setCompletion_pins : (s.setCompletion x).pins = s.pins := rfl
@[simp] theorem State.setCompletion_freeCount : (s.setCompletion x).freeCount = s.freeCount := rfl
@[simp] theorem State.setCompletion_pending : (s.setCompletion x).pending = s.pending := rfl

end setCompletion

section setBands

variable (s : State) (x : Bands)

@[simp] theorem State.setBands_resetHeld : (s.setBands x).resetHeld = s.resetHeld := rfl
@[simp] theorem State.setBands_setup : (s.setBands x).setup = s.setup := rfl
@[simp] theorem State.setBands_cause : (s.setBands x).cause = s.cause := rfl
@[simp] theorem State.setBands_ien : (s.setBands x).ien = s.ien := rfl
@[simp] theorem State.setBands_engine : (s.setBands x).engine = s.engine := rfl
@[simp] theorem State.setBands_rings : (s.setBands x).rings = s.rings := rfl
@[simp] theorem State.setBands_completion : (s.setBands x).completion = s.completion := rfl
@[simp] theorem State.setBands_renderStates : (s.setBands x).renderStates = s.renderStates := rfl
@[simp] theorem State.setBands_loads : (s.setBands x).loads = s.loads := rfl
@[simp] theorem State.setBands_walkers : (s.setBands x).walkers = s.walkers := rfl
@[simp] theorem State.setBands_tables : (s.setBands x).tables = s.tables := rfl
@[simp] theorem State.setBands_bands : (s.setBands x).bands = x := rfl
@[simp] theorem State.setBands_printQueue : (s.setBands x).printQueue = s.printQueue := rfl
@[simp] theorem State.setBands_render : (s.setBands x).render = s.render := rfl
@[simp] theorem State.setBands_labels : (s.setBands x).labels = s.labels := rfl
@[simp] theorem State.setBands_head : (s.setBands x).head = s.head := rfl
@[simp] theorem State.setBands_image : (s.setBands x).image = s.image := rfl
@[simp] theorem State.setBands_pins : (s.setBands x).pins = s.pins := rfl
@[simp] theorem State.setBands_freeCount : (s.setBands x).freeCount = s.freeCount := rfl
@[simp] theorem State.setBands_pending : (s.setBands x).pending = s.pending := rfl

end setBands

section setPrintQueue

variable (s : State) (x : List BufferId)

@[simp] theorem State.setPrintQueue_resetHeld : (s.setPrintQueue x).resetHeld = s.resetHeld := rfl
@[simp] theorem State.setPrintQueue_setup : (s.setPrintQueue x).setup = s.setup := rfl
@[simp] theorem State.setPrintQueue_cause : (s.setPrintQueue x).cause = s.cause := rfl
@[simp] theorem State.setPrintQueue_ien : (s.setPrintQueue x).ien = s.ien := rfl
@[simp] theorem State.setPrintQueue_engine : (s.setPrintQueue x).engine = s.engine := rfl
@[simp] theorem State.setPrintQueue_rings : (s.setPrintQueue x).rings = s.rings := rfl
@[simp] theorem State.setPrintQueue_completion : (s.setPrintQueue x).completion = s.completion := rfl
@[simp] theorem State.setPrintQueue_renderStates : (s.setPrintQueue x).renderStates = s.renderStates := rfl
@[simp] theorem State.setPrintQueue_loads : (s.setPrintQueue x).loads = s.loads := rfl
@[simp] theorem State.setPrintQueue_walkers : (s.setPrintQueue x).walkers = s.walkers := rfl
@[simp] theorem State.setPrintQueue_tables : (s.setPrintQueue x).tables = s.tables := rfl
@[simp] theorem State.setPrintQueue_bands : (s.setPrintQueue x).bands = s.bands := rfl
@[simp] theorem State.setPrintQueue_printQueue : (s.setPrintQueue x).printQueue = x := rfl
@[simp] theorem State.setPrintQueue_render : (s.setPrintQueue x).render = s.render := rfl
@[simp] theorem State.setPrintQueue_labels : (s.setPrintQueue x).labels = s.labels := rfl
@[simp] theorem State.setPrintQueue_head : (s.setPrintQueue x).head = s.head := rfl
@[simp] theorem State.setPrintQueue_image : (s.setPrintQueue x).image = s.image := rfl
@[simp] theorem State.setPrintQueue_pins : (s.setPrintQueue x).pins = s.pins := rfl
@[simp] theorem State.setPrintQueue_freeCount : (s.setPrintQueue x).freeCount = s.freeCount := rfl
@[simp] theorem State.setPrintQueue_pending : (s.setPrintQueue x).pending = s.pending := rfl

end setPrintQueue

section setRender

variable (s : State) (x : Option RenderRecord)

@[simp] theorem State.setRender_resetHeld : (s.setRender x).resetHeld = s.resetHeld := rfl
@[simp] theorem State.setRender_setup : (s.setRender x).setup = s.setup := rfl
@[simp] theorem State.setRender_cause : (s.setRender x).cause = s.cause := rfl
@[simp] theorem State.setRender_ien : (s.setRender x).ien = s.ien := rfl
@[simp] theorem State.setRender_engine : (s.setRender x).engine = s.engine := rfl
@[simp] theorem State.setRender_rings : (s.setRender x).rings = s.rings := rfl
@[simp] theorem State.setRender_completion : (s.setRender x).completion = s.completion := rfl
@[simp] theorem State.setRender_renderStates : (s.setRender x).renderStates = s.renderStates := rfl
@[simp] theorem State.setRender_loads : (s.setRender x).loads = s.loads := rfl
@[simp] theorem State.setRender_walkers : (s.setRender x).walkers = s.walkers := rfl
@[simp] theorem State.setRender_tables : (s.setRender x).tables = s.tables := rfl
@[simp] theorem State.setRender_bands : (s.setRender x).bands = s.bands := rfl
@[simp] theorem State.setRender_printQueue : (s.setRender x).printQueue = s.printQueue := rfl
@[simp] theorem State.setRender_render : (s.setRender x).render = x := rfl
@[simp] theorem State.setRender_labels : (s.setRender x).labels = s.labels := rfl
@[simp] theorem State.setRender_head : (s.setRender x).head = s.head := rfl
@[simp] theorem State.setRender_image : (s.setRender x).image = s.image := rfl
@[simp] theorem State.setRender_pins : (s.setRender x).pins = s.pins := rfl
@[simp] theorem State.setRender_freeCount : (s.setRender x).freeCount = s.freeCount := rfl
@[simp] theorem State.setRender_pending : (s.setRender x).pending = s.pending := rfl

end setRender

section setLabels

variable (s : State) (x : List LabelEntry)

@[simp] theorem State.setLabels_resetHeld : (s.setLabels x).resetHeld = s.resetHeld := rfl
@[simp] theorem State.setLabels_setup : (s.setLabels x).setup = s.setup := rfl
@[simp] theorem State.setLabels_cause : (s.setLabels x).cause = s.cause := rfl
@[simp] theorem State.setLabels_ien : (s.setLabels x).ien = s.ien := rfl
@[simp] theorem State.setLabels_engine : (s.setLabels x).engine = s.engine := rfl
@[simp] theorem State.setLabels_rings : (s.setLabels x).rings = s.rings := rfl
@[simp] theorem State.setLabels_completion : (s.setLabels x).completion = s.completion := rfl
@[simp] theorem State.setLabels_renderStates : (s.setLabels x).renderStates = s.renderStates := rfl
@[simp] theorem State.setLabels_loads : (s.setLabels x).loads = s.loads := rfl
@[simp] theorem State.setLabels_walkers : (s.setLabels x).walkers = s.walkers := rfl
@[simp] theorem State.setLabels_tables : (s.setLabels x).tables = s.tables := rfl
@[simp] theorem State.setLabels_bands : (s.setLabels x).bands = s.bands := rfl
@[simp] theorem State.setLabels_printQueue : (s.setLabels x).printQueue = s.printQueue := rfl
@[simp] theorem State.setLabels_render : (s.setLabels x).render = s.render := rfl
@[simp] theorem State.setLabels_labels : (s.setLabels x).labels = x := rfl
@[simp] theorem State.setLabels_head : (s.setLabels x).head = s.head := rfl
@[simp] theorem State.setLabels_image : (s.setLabels x).image = s.image := rfl
@[simp] theorem State.setLabels_pins : (s.setLabels x).pins = s.pins := rfl
@[simp] theorem State.setLabels_freeCount : (s.setLabels x).freeCount = s.freeCount := rfl
@[simp] theorem State.setLabels_pending : (s.setLabels x).pending = s.pending := rfl

end setLabels

section setHead

variable (s : State) (x : HeadPort)

@[simp] theorem State.setHead_resetHeld : (s.setHead x).resetHeld = s.resetHeld := rfl
@[simp] theorem State.setHead_setup : (s.setHead x).setup = s.setup := rfl
@[simp] theorem State.setHead_cause : (s.setHead x).cause = s.cause := rfl
@[simp] theorem State.setHead_ien : (s.setHead x).ien = s.ien := rfl
@[simp] theorem State.setHead_engine : (s.setHead x).engine = s.engine := rfl
@[simp] theorem State.setHead_rings : (s.setHead x).rings = s.rings := rfl
@[simp] theorem State.setHead_completion : (s.setHead x).completion = s.completion := rfl
@[simp] theorem State.setHead_renderStates : (s.setHead x).renderStates = s.renderStates := rfl
@[simp] theorem State.setHead_loads : (s.setHead x).loads = s.loads := rfl
@[simp] theorem State.setHead_walkers : (s.setHead x).walkers = s.walkers := rfl
@[simp] theorem State.setHead_tables : (s.setHead x).tables = s.tables := rfl
@[simp] theorem State.setHead_bands : (s.setHead x).bands = s.bands := rfl
@[simp] theorem State.setHead_printQueue : (s.setHead x).printQueue = s.printQueue := rfl
@[simp] theorem State.setHead_render : (s.setHead x).render = s.render := rfl
@[simp] theorem State.setHead_labels : (s.setHead x).labels = s.labels := rfl
@[simp] theorem State.setHead_head : (s.setHead x).head = x := rfl
@[simp] theorem State.setHead_image : (s.setHead x).image = s.image := rfl
@[simp] theorem State.setHead_pins : (s.setHead x).pins = s.pins := rfl
@[simp] theorem State.setHead_freeCount : (s.setHead x).freeCount = s.freeCount := rfl
@[simp] theorem State.setHead_pending : (s.setHead x).pending = s.pending := rfl

end setHead

section setImage

variable (s : State) (x : Option ImageJob)

@[simp] theorem State.setImage_resetHeld : (s.setImage x).resetHeld = s.resetHeld := rfl
@[simp] theorem State.setImage_setup : (s.setImage x).setup = s.setup := rfl
@[simp] theorem State.setImage_cause : (s.setImage x).cause = s.cause := rfl
@[simp] theorem State.setImage_ien : (s.setImage x).ien = s.ien := rfl
@[simp] theorem State.setImage_engine : (s.setImage x).engine = s.engine := rfl
@[simp] theorem State.setImage_rings : (s.setImage x).rings = s.rings := rfl
@[simp] theorem State.setImage_completion : (s.setImage x).completion = s.completion := rfl
@[simp] theorem State.setImage_renderStates : (s.setImage x).renderStates = s.renderStates := rfl
@[simp] theorem State.setImage_loads : (s.setImage x).loads = s.loads := rfl
@[simp] theorem State.setImage_walkers : (s.setImage x).walkers = s.walkers := rfl
@[simp] theorem State.setImage_tables : (s.setImage x).tables = s.tables := rfl
@[simp] theorem State.setImage_bands : (s.setImage x).bands = s.bands := rfl
@[simp] theorem State.setImage_printQueue : (s.setImage x).printQueue = s.printQueue := rfl
@[simp] theorem State.setImage_render : (s.setImage x).render = s.render := rfl
@[simp] theorem State.setImage_labels : (s.setImage x).labels = s.labels := rfl
@[simp] theorem State.setImage_head : (s.setImage x).head = s.head := rfl
@[simp] theorem State.setImage_image : (s.setImage x).image = x := rfl
@[simp] theorem State.setImage_pins : (s.setImage x).pins = s.pins := rfl
@[simp] theorem State.setImage_freeCount : (s.setImage x).freeCount = s.freeCount := rfl
@[simp] theorem State.setImage_pending : (s.setImage x).pending = s.pending := rfl

end setImage

section setPins

variable (s : State) (x : Pins)

@[simp] theorem State.setPins_resetHeld : (s.setPins x).resetHeld = s.resetHeld := rfl
@[simp] theorem State.setPins_setup : (s.setPins x).setup = s.setup := rfl
@[simp] theorem State.setPins_cause : (s.setPins x).cause = s.cause := rfl
@[simp] theorem State.setPins_ien : (s.setPins x).ien = s.ien := rfl
@[simp] theorem State.setPins_engine : (s.setPins x).engine = s.engine := rfl
@[simp] theorem State.setPins_rings : (s.setPins x).rings = s.rings := rfl
@[simp] theorem State.setPins_completion : (s.setPins x).completion = s.completion := rfl
@[simp] theorem State.setPins_renderStates : (s.setPins x).renderStates = s.renderStates := rfl
@[simp] theorem State.setPins_loads : (s.setPins x).loads = s.loads := rfl
@[simp] theorem State.setPins_walkers : (s.setPins x).walkers = s.walkers := rfl
@[simp] theorem State.setPins_tables : (s.setPins x).tables = s.tables := rfl
@[simp] theorem State.setPins_bands : (s.setPins x).bands = s.bands := rfl
@[simp] theorem State.setPins_printQueue : (s.setPins x).printQueue = s.printQueue := rfl
@[simp] theorem State.setPins_render : (s.setPins x).render = s.render := rfl
@[simp] theorem State.setPins_labels : (s.setPins x).labels = s.labels := rfl
@[simp] theorem State.setPins_head : (s.setPins x).head = s.head := rfl
@[simp] theorem State.setPins_image : (s.setPins x).image = s.image := rfl
@[simp] theorem State.setPins_pins : (s.setPins x).pins = x := rfl
@[simp] theorem State.setPins_freeCount : (s.setPins x).freeCount = s.freeCount := rfl
@[simp] theorem State.setPins_pending : (s.setPins x).pending = s.pending := rfl

end setPins

section setCauseBits

variable (s : State) (x : BitVec 6)

@[simp] theorem State.setCauseBits_resetHeld : (s.setCauseBits x).resetHeld = s.resetHeld := rfl
@[simp] theorem State.setCauseBits_setup : (s.setCauseBits x).setup = s.setup := rfl
@[simp] theorem State.setCauseBits_cause : (s.setCauseBits x).cause = x := rfl
@[simp] theorem State.setCauseBits_ien : (s.setCauseBits x).ien = s.ien := rfl
@[simp] theorem State.setCauseBits_engine : (s.setCauseBits x).engine = s.engine := rfl
@[simp] theorem State.setCauseBits_rings : (s.setCauseBits x).rings = s.rings := rfl
@[simp] theorem State.setCauseBits_completion : (s.setCauseBits x).completion = s.completion := rfl
@[simp] theorem State.setCauseBits_renderStates : (s.setCauseBits x).renderStates = s.renderStates := rfl
@[simp] theorem State.setCauseBits_loads : (s.setCauseBits x).loads = s.loads := rfl
@[simp] theorem State.setCauseBits_walkers : (s.setCauseBits x).walkers = s.walkers := rfl
@[simp] theorem State.setCauseBits_tables : (s.setCauseBits x).tables = s.tables := rfl
@[simp] theorem State.setCauseBits_bands : (s.setCauseBits x).bands = s.bands := rfl
@[simp] theorem State.setCauseBits_printQueue : (s.setCauseBits x).printQueue = s.printQueue := rfl
@[simp] theorem State.setCauseBits_render : (s.setCauseBits x).render = s.render := rfl
@[simp] theorem State.setCauseBits_labels : (s.setCauseBits x).labels = s.labels := rfl
@[simp] theorem State.setCauseBits_head : (s.setCauseBits x).head = s.head := rfl
@[simp] theorem State.setCauseBits_image : (s.setCauseBits x).image = s.image := rfl
@[simp] theorem State.setCauseBits_pins : (s.setCauseBits x).pins = s.pins := rfl
@[simp] theorem State.setCauseBits_freeCount : (s.setCauseBits x).freeCount = s.freeCount := rfl
@[simp] theorem State.setCauseBits_pending : (s.setCauseBits x).pending = s.pending := rfl

end setCauseBits

section setFreeCount

variable (s : State) (x : Nat)

@[simp] theorem State.setFreeCount_resetHeld : (s.setFreeCount x).resetHeld = s.resetHeld := rfl
@[simp] theorem State.setFreeCount_setup : (s.setFreeCount x).setup = s.setup := rfl
@[simp] theorem State.setFreeCount_cause : (s.setFreeCount x).cause = s.cause := rfl
@[simp] theorem State.setFreeCount_ien : (s.setFreeCount x).ien = s.ien := rfl
@[simp] theorem State.setFreeCount_engine : (s.setFreeCount x).engine = s.engine := rfl
@[simp] theorem State.setFreeCount_rings : (s.setFreeCount x).rings = s.rings := rfl
@[simp] theorem State.setFreeCount_completion : (s.setFreeCount x).completion = s.completion := rfl
@[simp] theorem State.setFreeCount_renderStates : (s.setFreeCount x).renderStates = s.renderStates := rfl
@[simp] theorem State.setFreeCount_loads : (s.setFreeCount x).loads = s.loads := rfl
@[simp] theorem State.setFreeCount_walkers : (s.setFreeCount x).walkers = s.walkers := rfl
@[simp] theorem State.setFreeCount_tables : (s.setFreeCount x).tables = s.tables := rfl
@[simp] theorem State.setFreeCount_bands : (s.setFreeCount x).bands = s.bands := rfl
@[simp] theorem State.setFreeCount_printQueue : (s.setFreeCount x).printQueue = s.printQueue := rfl
@[simp] theorem State.setFreeCount_render : (s.setFreeCount x).render = s.render := rfl
@[simp] theorem State.setFreeCount_labels : (s.setFreeCount x).labels = s.labels := rfl
@[simp] theorem State.setFreeCount_head : (s.setFreeCount x).head = s.head := rfl
@[simp] theorem State.setFreeCount_image : (s.setFreeCount x).image = s.image := rfl
@[simp] theorem State.setFreeCount_pins : (s.setFreeCount x).pins = s.pins := rfl
@[simp] theorem State.setFreeCount_freeCount : (s.setFreeCount x).freeCount = x := rfl
@[simp] theorem State.setFreeCount_pending : (s.setFreeCount x).pending = s.pending := rfl

end setFreeCount

section setPending

variable (s : State) (x : List Instr)

@[simp] theorem State.setPending_resetHeld : (s.setPending x).resetHeld = s.resetHeld := rfl
@[simp] theorem State.setPending_setup : (s.setPending x).setup = s.setup := rfl
@[simp] theorem State.setPending_cause : (s.setPending x).cause = s.cause := rfl
@[simp] theorem State.setPending_ien : (s.setPending x).ien = s.ien := rfl
@[simp] theorem State.setPending_engine : (s.setPending x).engine = s.engine := rfl
@[simp] theorem State.setPending_rings : (s.setPending x).rings = s.rings := rfl
@[simp] theorem State.setPending_completion : (s.setPending x).completion = s.completion := rfl
@[simp] theorem State.setPending_renderStates : (s.setPending x).renderStates = s.renderStates := rfl
@[simp] theorem State.setPending_loads : (s.setPending x).loads = s.loads := rfl
@[simp] theorem State.setPending_walkers : (s.setPending x).walkers = s.walkers := rfl
@[simp] theorem State.setPending_tables : (s.setPending x).tables = s.tables := rfl
@[simp] theorem State.setPending_bands : (s.setPending x).bands = s.bands := rfl
@[simp] theorem State.setPending_printQueue : (s.setPending x).printQueue = s.printQueue := rfl
@[simp] theorem State.setPending_render : (s.setPending x).render = s.render := rfl
@[simp] theorem State.setPending_labels : (s.setPending x).labels = s.labels := rfl
@[simp] theorem State.setPending_head : (s.setPending x).head = s.head := rfl
@[simp] theorem State.setPending_image : (s.setPending x).image = s.image := rfl
@[simp] theorem State.setPending_pins : (s.setPending x).pins = s.pins := rfl
@[simp] theorem State.setPending_freeCount : (s.setPending x).freeCount = s.freeCount := rfl
@[simp] theorem State.setPending_pending : (s.setPending x).pending = x := rfl

end setPending

section setRing

variable (s : State) (r : Ring) (x : RingRecord)

@[simp] theorem State.setRing_resetHeld : (s.setRing r x).resetHeld = s.resetHeld := rfl
@[simp] theorem State.setRing_setup : (s.setRing r x).setup = s.setup := rfl
@[simp] theorem State.setRing_cause : (s.setRing r x).cause = s.cause := rfl
@[simp] theorem State.setRing_ien : (s.setRing r x).ien = s.ien := rfl
@[simp] theorem State.setRing_engine : (s.setRing r x).engine = s.engine := rfl
@[simp] theorem State.setRing_rings : (s.setRing r x).rings = s.rings.set r x := rfl
@[simp] theorem State.setRing_completion : (s.setRing r x).completion = s.completion := rfl
@[simp] theorem State.setRing_renderStates : (s.setRing r x).renderStates = s.renderStates := rfl
@[simp] theorem State.setRing_loads : (s.setRing r x).loads = s.loads := rfl
@[simp] theorem State.setRing_walkers : (s.setRing r x).walkers = s.walkers := rfl
@[simp] theorem State.setRing_tables : (s.setRing r x).tables = s.tables := rfl
@[simp] theorem State.setRing_bands : (s.setRing r x).bands = s.bands := rfl
@[simp] theorem State.setRing_printQueue : (s.setRing r x).printQueue = s.printQueue := rfl
@[simp] theorem State.setRing_render : (s.setRing r x).render = s.render := rfl
@[simp] theorem State.setRing_labels : (s.setRing r x).labels = s.labels := rfl
@[simp] theorem State.setRing_head : (s.setRing r x).head = s.head := rfl
@[simp] theorem State.setRing_image : (s.setRing r x).image = s.image := rfl
@[simp] theorem State.setRing_pins : (s.setRing r x).pins = s.pins := rfl
@[simp] theorem State.setRing_freeCount : (s.setRing r x).freeCount = s.freeCount := rfl
@[simp] theorem State.setRing_pending : (s.setRing r x).pending = s.pending := rfl

end setRing

section setRenderState

variable (s : State) (r : Ring) (x : RenderState)

@[simp] theorem State.setRenderState_resetHeld : (s.setRenderState r x).resetHeld = s.resetHeld := rfl
@[simp] theorem State.setRenderState_setup : (s.setRenderState r x).setup = s.setup := rfl
@[simp] theorem State.setRenderState_cause : (s.setRenderState r x).cause = s.cause := rfl
@[simp] theorem State.setRenderState_ien : (s.setRenderState r x).ien = s.ien := rfl
@[simp] theorem State.setRenderState_engine : (s.setRenderState r x).engine = s.engine := rfl
@[simp] theorem State.setRenderState_rings : (s.setRenderState r x).rings = s.rings := rfl
@[simp] theorem State.setRenderState_completion : (s.setRenderState r x).completion = s.completion := rfl
@[simp] theorem State.setRenderState_renderStates : (s.setRenderState r x).renderStates = s.renderStates.set r x := rfl
@[simp] theorem State.setRenderState_loads : (s.setRenderState r x).loads = s.loads := rfl
@[simp] theorem State.setRenderState_walkers : (s.setRenderState r x).walkers = s.walkers := rfl
@[simp] theorem State.setRenderState_tables : (s.setRenderState r x).tables = s.tables := rfl
@[simp] theorem State.setRenderState_bands : (s.setRenderState r x).bands = s.bands := rfl
@[simp] theorem State.setRenderState_printQueue : (s.setRenderState r x).printQueue = s.printQueue := rfl
@[simp] theorem State.setRenderState_render : (s.setRenderState r x).render = s.render := rfl
@[simp] theorem State.setRenderState_labels : (s.setRenderState r x).labels = s.labels := rfl
@[simp] theorem State.setRenderState_head : (s.setRenderState r x).head = s.head := rfl
@[simp] theorem State.setRenderState_image : (s.setRenderState r x).image = s.image := rfl
@[simp] theorem State.setRenderState_pins : (s.setRenderState r x).pins = s.pins := rfl
@[simp] theorem State.setRenderState_freeCount : (s.setRenderState r x).freeCount = s.freeCount := rfl
@[simp] theorem State.setRenderState_pending : (s.setRenderState r x).pending = s.pending := rfl

end setRenderState

section setLoad

variable (s : State) (r : Ring) (x : Option StateLoad)

@[simp] theorem State.setLoad_resetHeld : (s.setLoad r x).resetHeld = s.resetHeld := rfl
@[simp] theorem State.setLoad_setup : (s.setLoad r x).setup = s.setup := rfl
@[simp] theorem State.setLoad_cause : (s.setLoad r x).cause = s.cause := rfl
@[simp] theorem State.setLoad_ien : (s.setLoad r x).ien = s.ien := rfl
@[simp] theorem State.setLoad_engine : (s.setLoad r x).engine = s.engine := rfl
@[simp] theorem State.setLoad_rings : (s.setLoad r x).rings = s.rings := rfl
@[simp] theorem State.setLoad_completion : (s.setLoad r x).completion = s.completion := rfl
@[simp] theorem State.setLoad_renderStates : (s.setLoad r x).renderStates = s.renderStates := rfl
@[simp] theorem State.setLoad_loads : (s.setLoad r x).loads = s.loads.set r x := rfl
@[simp] theorem State.setLoad_walkers : (s.setLoad r x).walkers = s.walkers := rfl
@[simp] theorem State.setLoad_tables : (s.setLoad r x).tables = s.tables := rfl
@[simp] theorem State.setLoad_bands : (s.setLoad r x).bands = s.bands := rfl
@[simp] theorem State.setLoad_printQueue : (s.setLoad r x).printQueue = s.printQueue := rfl
@[simp] theorem State.setLoad_render : (s.setLoad r x).render = s.render := rfl
@[simp] theorem State.setLoad_labels : (s.setLoad r x).labels = s.labels := rfl
@[simp] theorem State.setLoad_head : (s.setLoad r x).head = s.head := rfl
@[simp] theorem State.setLoad_image : (s.setLoad r x).image = s.image := rfl
@[simp] theorem State.setLoad_pins : (s.setLoad r x).pins = s.pins := rfl
@[simp] theorem State.setLoad_freeCount : (s.setLoad r x).freeCount = s.freeCount := rfl
@[simp] theorem State.setLoad_pending : (s.setLoad r x).pending = s.pending := rfl

end setLoad

section setWalker

variable (s : State) (r : Ring) (x : WalkerContext)

@[simp] theorem State.setWalker_resetHeld : (s.setWalker r x).resetHeld = s.resetHeld := rfl
@[simp] theorem State.setWalker_setup : (s.setWalker r x).setup = s.setup := rfl
@[simp] theorem State.setWalker_cause : (s.setWalker r x).cause = s.cause := rfl
@[simp] theorem State.setWalker_ien : (s.setWalker r x).ien = s.ien := rfl
@[simp] theorem State.setWalker_engine : (s.setWalker r x).engine = s.engine := rfl
@[simp] theorem State.setWalker_rings : (s.setWalker r x).rings = s.rings := rfl
@[simp] theorem State.setWalker_completion : (s.setWalker r x).completion = s.completion := rfl
@[simp] theorem State.setWalker_renderStates : (s.setWalker r x).renderStates = s.renderStates := rfl
@[simp] theorem State.setWalker_loads : (s.setWalker r x).loads = s.loads := rfl
@[simp] theorem State.setWalker_walkers : (s.setWalker r x).walkers = s.walkers.set r x := rfl
@[simp] theorem State.setWalker_tables : (s.setWalker r x).tables = s.tables := rfl
@[simp] theorem State.setWalker_bands : (s.setWalker r x).bands = s.bands := rfl
@[simp] theorem State.setWalker_printQueue : (s.setWalker r x).printQueue = s.printQueue := rfl
@[simp] theorem State.setWalker_render : (s.setWalker r x).render = s.render := rfl
@[simp] theorem State.setWalker_labels : (s.setWalker r x).labels = s.labels := rfl
@[simp] theorem State.setWalker_head : (s.setWalker r x).head = s.head := rfl
@[simp] theorem State.setWalker_image : (s.setWalker r x).image = s.image := rfl
@[simp] theorem State.setWalker_pins : (s.setWalker r x).pins = s.pins := rfl
@[simp] theorem State.setWalker_freeCount : (s.setWalker r x).freeCount = s.freeCount := rfl
@[simp] theorem State.setWalker_pending : (s.setWalker r x).pending = s.pending := rfl

end setWalker

section setTable

variable (s : State) (r : Ring) (x : List TableEntry)

@[simp] theorem State.setTable_resetHeld : (s.setTable r x).resetHeld = s.resetHeld := rfl
@[simp] theorem State.setTable_setup : (s.setTable r x).setup = s.setup := rfl
@[simp] theorem State.setTable_cause : (s.setTable r x).cause = s.cause := rfl
@[simp] theorem State.setTable_ien : (s.setTable r x).ien = s.ien := rfl
@[simp] theorem State.setTable_engine : (s.setTable r x).engine = s.engine := rfl
@[simp] theorem State.setTable_rings : (s.setTable r x).rings = s.rings := rfl
@[simp] theorem State.setTable_completion : (s.setTable r x).completion = s.completion := rfl
@[simp] theorem State.setTable_renderStates : (s.setTable r x).renderStates = s.renderStates := rfl
@[simp] theorem State.setTable_loads : (s.setTable r x).loads = s.loads := rfl
@[simp] theorem State.setTable_walkers : (s.setTable r x).walkers = s.walkers := rfl
@[simp] theorem State.setTable_tables : (s.setTable r x).tables = s.tables.set r x := rfl
@[simp] theorem State.setTable_bands : (s.setTable r x).bands = s.bands := rfl
@[simp] theorem State.setTable_printQueue : (s.setTable r x).printQueue = s.printQueue := rfl
@[simp] theorem State.setTable_render : (s.setTable r x).render = s.render := rfl
@[simp] theorem State.setTable_labels : (s.setTable r x).labels = s.labels := rfl
@[simp] theorem State.setTable_head : (s.setTable r x).head = s.head := rfl
@[simp] theorem State.setTable_image : (s.setTable r x).image = s.image := rfl
@[simp] theorem State.setTable_pins : (s.setTable r x).pins = s.pins := rfl
@[simp] theorem State.setTable_freeCount : (s.setTable r x).freeCount = s.freeCount := rfl
@[simp] theorem State.setTable_pending : (s.setTable r x).pending = s.pending := rfl

end setTable

section setBand

variable (s : State) (i : BufferId) (x : BandBuffer)

@[simp] theorem State.setBand_resetHeld : (s.setBand i x).resetHeld = s.resetHeld := rfl
@[simp] theorem State.setBand_setup : (s.setBand i x).setup = s.setup := rfl
@[simp] theorem State.setBand_cause : (s.setBand i x).cause = s.cause := rfl
@[simp] theorem State.setBand_ien : (s.setBand i x).ien = s.ien := rfl
@[simp] theorem State.setBand_engine : (s.setBand i x).engine = s.engine := rfl
@[simp] theorem State.setBand_rings : (s.setBand i x).rings = s.rings := rfl
@[simp] theorem State.setBand_completion : (s.setBand i x).completion = s.completion := rfl
@[simp] theorem State.setBand_renderStates : (s.setBand i x).renderStates = s.renderStates := rfl
@[simp] theorem State.setBand_loads : (s.setBand i x).loads = s.loads := rfl
@[simp] theorem State.setBand_walkers : (s.setBand i x).walkers = s.walkers := rfl
@[simp] theorem State.setBand_tables : (s.setBand i x).tables = s.tables := rfl
@[simp] theorem State.setBand_bands : (s.setBand i x).bands = s.bands.set i x := rfl
@[simp] theorem State.setBand_printQueue : (s.setBand i x).printQueue = s.printQueue := rfl
@[simp] theorem State.setBand_render : (s.setBand i x).render = s.render := rfl
@[simp] theorem State.setBand_labels : (s.setBand i x).labels = s.labels := rfl
@[simp] theorem State.setBand_head : (s.setBand i x).head = s.head := rfl
@[simp] theorem State.setBand_image : (s.setBand i x).image = s.image := rfl
@[simp] theorem State.setBand_pins : (s.setBand i x).pins = s.pins := rfl
@[simp] theorem State.setBand_freeCount : (s.setBand i x).freeCount = s.freeCount := rfl
@[simp] theorem State.setBand_pending : (s.setBand i x).pending = s.pending := rfl

end setBand

end Sys2Proof.Machine
end

