-- ==== Sys2Proof/Laws/Ops.lean ====
section
/-! SUPPORT. What the shared operations can do, said once each: the wrapper every command runs in, the
pins, reservations, takes, the freeing of buffers, and the ends of jobs. -/

namespace Sys2Proof.Machine

/-! ### The wrapper and the pins -/

/-- Outside RESET_N a command answers its effect with the pins brought to their levels. -/
theorem State.act_live {s : State} (f : State → State) (h : s.resetHeld = false) :
    s.act f = .next (f s).settle := by simp [State.act, h]

/-- Under RESET_N a command changes nothing. -/
theorem State.act_held {s : State} (f : State → State) (h : s.resetHeld = true) :
    s.act f = .next s := by simp [State.act, h]

/-- What a command in the wrapper can answer. -/
theorem State.act_next {s t : State} {f : State → State} (h : s.act f = .next t) :
    (s.resetHeld = true ∧ t = s) ∨ (s.resetHeld = false ∧ t = (f s).settle) := by
  unfold State.act at h
  cases hr : s.resetHeld <;> simp [hr] at h
  · exact .inr ⟨rfl, h.symm⟩
  · exact .inl ⟨rfl, h.symm⟩

@[simp] theorem State.settle_resetHeld (s : State) : s.settle.resetHeld = s.resetHeld := rfl
@[simp] theorem State.settle_setup (s : State) : s.settle.setup = s.setup := rfl
@[simp] theorem State.settle_cause (s : State) : s.settle.cause = s.cause := rfl
@[simp] theorem State.settle_ien (s : State) : s.settle.ien = s.ien := rfl
@[simp] theorem State.settle_engine (s : State) : s.settle.engine = s.engine := rfl
@[simp] theorem State.settle_rings (s : State) : s.settle.rings = s.rings := rfl
@[simp] theorem State.settle_completion (s : State) : s.settle.completion = s.completion := rfl
@[simp] theorem State.settle_renderStates (s : State) : s.settle.renderStates = s.renderStates := rfl
@[simp] theorem State.settle_loads (s : State) : s.settle.loads = s.loads := rfl
@[simp] theorem State.settle_walkers (s : State) : s.settle.walkers = s.walkers := rfl
@[simp] theorem State.settle_tables (s : State) : s.settle.tables = s.tables := rfl
@[simp] theorem State.settle_bands (s : State) : s.settle.bands = s.bands := rfl
@[simp] theorem State.settle_printQueue (s : State) : s.settle.printQueue = s.printQueue := rfl
@[simp] theorem State.settle_render (s : State) : s.settle.render = s.render := rfl
@[simp] theorem State.settle_labels (s : State) : s.settle.labels = s.labels := rfl
@[simp] theorem State.settle_head (s : State) : s.settle.head = s.head := rfl
@[simp] theorem State.settle_image (s : State) : s.settle.image = s.image := rfl
@[simp] theorem State.settle_freeCount (s : State) : s.settle.freeCount = s.freeCount := rfl
@[simp] theorem State.settle_pending (s : State) : s.settle.pending = s.pending := rfl
theorem State.settle_pins (s : State) : s.settle.pins = s.pinLevels := rfl
/-- The pins' levels do not depend on the pins. -/
@[simp] theorem State.pinLevels_settle (s : State) : s.settle.pinLevels = s.pinLevels := rfl
/-- Settling twice is settling once. -/
@[simp] theorem State.settle_settle (s : State) : s.settle.settle = s.settle := rfl

/-! ### Causes -/

theorem State.setCause_eq (s : State) (c : Cause) :
    s.setCause c = { s with cause := s.cause ||| c.mask } := rfl
theorem State.clearCauses_eq (s : State) (b : BitVec 6) :
    s.clearCauses b = { s with cause := s.cause &&& ~~~b } := rfl

/-! ### Reservations and takes -/

theorem State.reserveSlot_eq (s : State) :
    s.reserveSlot =
      { s with completion := { s.completion with reserved := s.completion.reserved + 1 } } := rfl
theorem State.releaseSlot_eq (s : State) :
    s.releaseSlot =
      { s with completion := { s.completion with reserved := s.completion.reserved - 1 } } := rfl

/-- Discarding a take marks a fetch, drops a held LABEL with its reservation, and else does nothing. -/
theorem State.discardTake_cases (s : State) (r : Ring) :
    ((s.rings.get r).take = .none ∧ s.discardTake r = s) ∨
    (∃ a d, (s.rings.get r).take = .fetch a d ∧ s.discardTake r = s.setTake r (.fetch a true)) ∨
    (∃ b, (s.rings.get r).take = .held b ∧ s.discardTake r = (s.setTake r .none).releaseSlot) := by
  unfold State.discardTake
  rcases h : (s.rings.get r).take with _ | ⟨a, d⟩ | b
  · exact .inl ⟨rfl, rfl⟩
  · exact .inr (.inl ⟨a, d, rfl, rfl⟩)
  · exact .inr (.inr ⟨b, rfl, rfl⟩)

/-- The overrun check does nothing, or faults a ring over its size and discards its take. -/
theorem State.checkOverrun_cases (s : State) (p : SetupParams) (r : Ring) :
    s.checkOverrun p r = s ∨
    ((s.rings.get r).state.faulted = false ∧ p.ringSize.get r < (s.rings.get r).posted ∧
      s.checkOverrun p r = (s.faultRing r .faultedOverrun).discardTake r) := by
  unfold State.checkOverrun
  split
  · exact .inl rfl
  · next h =>
    split
    · next h' => exact .inr ⟨by simpa using h, h', rfl⟩
    · exact .inl rfl

/-- The take proper: consumer advance, no take in flight, one retire entry more (R152). -/
theorem State.takeProper_eq (s : State) (r : Ring) (kind : Byte) (tag : Half)
    (res : Option Results) :
    s.takeProper r kind tag res =
      { s with
        rings := s.rings.set r
          { s.rings.get r with consumer := (s.rings.get r).consumer + 1#16, take := .none }
        completion := { s.completion with
          retire := s.completion.retire.set r
            (s.completion.retire.get r ++ [⟨(s.rings.get r).consumer, tag, kind, res⟩]) } } := rfl

/-! ### Retire queues -/

theorem RetireEntry.finish_ringIndex (i : Half) (res : Results) (e : RetireEntry) :
    (e.finish i res).ringIndex = e.ringIndex := by unfold RetireEntry.finish; split <;> rfl

/-- Finishing keeps a finished entry's results (R170). -/
theorem RetireEntry.finish_of_finished {i : Half} {res x : Results} {e : RetireEntry}
    (h : e.results = some x) : e.finish i res = e := by simp [RetireEntry.finish, h]

/-- Finishing keeps the length of every queue. -/
theorem State.finishRetire_length (s : State) (r q : Ring) (i : Half) (res : Results) :
    ((s.finishRetire r i res).completion.retire.get q).length =
      (s.completion.retire.get q).length := by
  cases r <;> cases q <;>
    simp [State.finishRetire, State.setRetire, PerRing.get, PerRing.set]

/-! ### Labels -/

/-- Changing a label keeps the number of labels. -/
theorem State.updateLabel_length (s : State) (i : Half) (f : LabelEntry → LabelEntry) :
    (s.updateLabel i f).labels.length = s.labels.length := by simp [State.updateLabel]

/-- Changing a label changes the list alone. -/
theorem State.updateLabel_eq (s : State) (i : Half) (f : LabelEntry → LabelEntry) :
    s.updateLabel i f = { s with labels := s.labels.map (updateEntry i f) } := rfl

/-! ### Band buffers -/

/-- Freeing buffers by a selection, buffer by buffer: each selected one goes FREE. -/
theorem State.freeBands_get (s : State) (sel : BufferId → BandBuffer → Bool) (i : BufferId) :
    (s.freeBands sel).bands.get i =
      if sel i (s.bands.get i) then (s.bands.get i).toFree else s.bands.get i := by
  fin_cases i <;> rfl

/-- Freeing buffers takes the freed ones out of the print band queue and changes nothing else. -/
theorem State.freeBands_eq (s : State) (sel : BufferId → BandBuffer → Bool) :
    s.freeBands sel =
      { s with
        bands := (s.freeBands sel).bands
        printQueue := s.printQueue.filter fun i => !sel i (s.bands.get i) } := rfl

/-! ### Ends of jobs -/

/-- Dropping a label's pending padded delivery changes the head port alone (R119). -/
theorem State.dropPendingPad_frame (s : State) (i : Half) :
    ∃ head, s.dropPendingPad i = { s with head := head } := by
  unfold State.dropPendingPad
  split
  · split
    · exact ⟨_, rfl⟩
    · exact ⟨s.head, rfl⟩
  · exact ⟨s.head, rfl⟩

/-- Stopping an ended label's render changes the labels, the cut flag, and the walkers and tables
(R98). -/
theorem State.stopLabelRender_frame (s : State) (l : LabelEntry) :
    ∃ labels render walkers tables, s.stopLabelRender l =
      { s with labels := labels, render := render, walkers := walkers, tables := tables } := by
  unfold State.stopLabelRender
  split
  · exact ⟨s.labels, _, s.walkers, s.tables, rfl⟩
  · split
    · exact ⟨_, s.render, _, _, rfl⟩
    · exact ⟨s.labels, s.render, s.walkers, s.tables, rfl⟩

/-- The end of a label changes the labels, the buffers with their queue, the pending padded delivery,
the band render's cut flag, and the walkers and tables; nothing else (R118, R119). -/
theorem State.endLabel_frame (s : State) (i : Half) (st : Status) (fi : Half) :
    ∃ labels bands printQueue head render walkers tables,
      s.endLabel i st fi =
        { s with
          labels := labels, bands := bands, printQueue := printQueue, head := head,
          render := render, walkers := walkers, tables := tables } := by
  unfold State.endLabel
  cases s.findLabel i with
  | none =>
    exact ⟨s.labels, s.bands, s.printQueue, s.head, s.render, s.walkers, s.tables, rfl⟩
  | some l =>
    by_cases h : l.printStatus = .ended
    · simp only [h, if_true]
      exact ⟨s.labels, s.bands, s.printQueue, s.head, s.render, s.walkers, s.tables, rfl⟩
    · simp only [h, if_false]
      obtain ⟨hd, e1⟩ := State.dropPendingPad_frame
        ((s.updateLabel i (LabelEntry.atEnd st fi)).takeBack (.label i)) i
      obtain ⟨lb, rn, wk, tb, e2⟩ := State.stopLabelRender_frame
        ((((s.updateLabel i (LabelEntry.atEnd st fi)).takeBack (.label i))).dropPendingPad i) l
      rw [e2, e1]
      exact ⟨lb, _, _, hd, rn, wk, tb, rfl⟩

/-- Stopping an ended label's render marks the label's band render to be cut, and leaves any other as it
is (R76, R98). -/
theorem State.stopLabelRender_render (s : State) (l : LabelEntry) :
    (s.stopLabelRender l).render =
      if s.rendersJob (.label l.ringIndex) then
        s.render.map fun r => { r with cutPending := true }
      else s.render := by
  unfold State.stopLabelRender
  split
  · rfl
  · split <;> rfl

/-- The end of a label leaves a band render as it is, or, when it is a label's, marks it to be cut (R76,
R98). -/
theorem State.endLabel_render (s : State) (i : Half) (st : Status) (fi : Half) :
    (s.endLabel i st fi).render = s.render ∨
    ((∃ k, s.rendersJob (.label k) = true) ∧ (s.endLabel i st fi).render =
      s.render.map fun r => { r with cutPending := true }) := by
  unfold State.endLabel
  split
  · exact .inl rfl
  · next l _ =>
    split
    · exact .inl rfl
    · have kept : (((s.updateLabel i (LabelEntry.atEnd st fi)).takeBack (.label i)).dropPendingPad
          i).render = s.render := by
        obtain ⟨_, e⟩ := State.dropPendingPad_frame
          ((s.updateLabel i (LabelEntry.atEnd st fi)).takeBack (.label i)) i
        rw [e]
        rfl
      rw [State.stopLabelRender_render, kept]
      split
      · next h =>
        unfold State.rendersJob at h ⊢
        rw [kept] at h
        exact .inr ⟨⟨_, h⟩, rfl⟩
      · exact .inl rfl

/-- The end of the image job changes the job, the band render's cut flag, and the image side's walker
and table; nothing else (R134). -/
theorem State.endImage_frame (s : State) (st : Status) (fi : Half) :
    ∃ image render walkers tables,
      s.endImage st fi =
        { s with image := image, render := render, walkers := walkers, tables := tables } := by
  unfold State.endImage
  simp only
  split <;> exact ⟨_, _, _, _, rfl⟩

end Sys2Proof.Machine
end

