-- ==== Sys2Proof/Laws/Labels.lean ====
section
/-! SUPPORT. One label of the list among the others: finding it, changing it, and the freeing of
buffers, in the terms of Safety.lean; and the small readings of register values and pairs. -/

namespace Sys2Proof.Machine

/-! ### Register values and pairs -/

theorem lowHalf_eq (v : Word) : lowHalf v = v.setWidth 16 := by
  refine BitVec.eq_of_getLsbD_eq fun i hi => ?_
  simp [lowHalf, hi]
theorem lowSix_eq (v : Word) : lowSix v = v.setWidth 6 := by
  refine BitVec.eq_of_getLsbD_eq fun i hi => ?_
  simp [lowSix, hi]

@[simp] theorem PerRing.set_get {α : Type} (p : PerRing α) (r : Ring) : p.set r (p.get r) = p := by
  cases r <;> rfl
@[simp] theorem PerRing.set_set {α : Type} (p : PerRing α) (r : Ring) (a b : α) :
    (p.set r a).set r b = p.set r b := by cases r <;> rfl
@[simp] theorem Bands.set_get (b : Bands) (i : BufferId) : b.set i (b.get i) = b := by
  fin_cases i <;> rfl

/-- RUNNING and DRAINING are the states in which the part works. -/
theorem State.working_of {s : State} (h : s.engine.state = .running ∨ s.engine.state = .draining) :
    s.working = true := by simp [State.working, h]

/-! ### One label among the others -/

/-- A label told apart by its ring index is found by it. -/
theorem State.findLabel_of_only {s : State} {l : LabelEntry} (h : s.onlyLabel l) :
    s.findLabel l.ringIndex = some l := by
  obtain ⟨hm, hu⟩ := h
  unfold State.findLabel
  cases hf : s.labels.find? (fun m => decide (m.ringIndex = l.ringIndex)) with
  | none =>
    simp only [List.find?_eq_none, decide_eq_true_eq] at hf
    exact absurd rfl (hf l hm)
  | some m =>
    have h1 := List.find?_some hf
    have h2 := List.mem_of_find?_eq_some hf
    simp only [decide_eq_true_eq] at h1
    rw [hu m h2 h1]

/-- A change made by ring index replaces the one label. -/
theorem State.map_updateEntry {s : State} {l : LabelEntry} (h : s.onlyLabel l)
    (f : LabelEntry → LabelEntry) :
    s.labels.map (updateEntry l.ringIndex f) = replaceLabel s.labels l (f l) := by
  unfold replaceLabel
  refine List.map_congr_left fun m hm => ?_
  unfold updateEntry
  split
  · next e => rw [h.2 m hm e]
  · rfl

/-- Replacing a label twice is replacing it once. -/
theorem replaceLabel_twice (ls : List LabelEntry) (l a b : LabelEntry)
    (ha : a.ringIndex = l.ringIndex) :
    replaceLabel (replaceLabel ls l a) l b = replaceLabel ls l b := by
  unfold replaceLabel
  rw [List.map_map]
  refine List.map_congr_left fun m _ => ?_
  simp only [Function.comp]
  split <;> simp_all

/-- A label put in another's place is told apart as it was. -/
theorem State.onlyLabel_replaced {s t : State} {l a : LabelEntry} (h : s.onlyLabel l)
    (ha : a.ringIndex = l.ringIndex) (ht : t.labels = replaceLabel s.labels l a) :
    t.onlyLabel a := by
  refine ⟨?_, fun m hm e => ?_⟩
  · rw [ht]
    exact List.mem_map.mpr ⟨l, h.1, by simp⟩
  · rw [ht] at hm
    obtain ⟨n, _, rfl⟩ := List.mem_map.mp hm
    by_cases h' : n.ringIndex = l.ringIndex
    · simp [h']
    · simp only [h', if_false] at e
      exact absurd (e.trans ha) h'

/-! ### Freeing buffers -/

/-- Freeing by a selection that looks at the buffers alone. -/
theorem State.freeBands_freed (s : State) (sel : BufferId → BandBuffer → Bool)
    (sel' : BandBuffer → Bool) (h : ∀ i, sel i (s.bands.get i) = sel' (s.bands.get i)) :
    s.freeBands sel =
      { s with
        bands := s.bands.freed sel'
        printQueue := s.printQueue.filter fun i => !sel' (s.bands.get i) } := by
  have hh (i : BufferId) :
      (if sel i (s.bands.get i) then (s.bands.get i).toFree else s.bands.get i) =
        if sel' (s.bands.get i) then { s.bands.get i with state := .free, owner := none }
        else s.bands.get i := by rw [h i]; rfl
  have hb : (s.freeBands sel).bands = s.bands.freed sel' := by
    show Bands.mk _ _ _ _ = _
    simp only [hh]
    rfl
  rw [State.freeBands_eq, hb]
  congr 1
  exact List.filter_congr fun i _ => by rw [h i]

end Sys2Proof.Machine
end

