-- ==== Sys2Proof/Laws/Raster.lean ====
section
/-! SUPPORT. Packed rows dot by dot: what a built row, a combined row and a painted row read as. -/

namespace Sys2Proof.Machine

/-- The packed number of `n` dots fits in `n` bits. -/
theorem packBits_lt (n : Nat) (p : Nat → Bool) : packBits n p < 2 ^ n := by
  induction n with
  | zero => simp [packBits]
  | succ n ih =>
    have : (p n).toNat ≤ 1 := Bool.toNat_le _
    simp only [packBits, Nat.pow_succ]
    omega

/-- Bit `k` of the packed number is dot `n - 1 - k`. -/
theorem packBits_testBit (n : Nat) (p : Nat → Bool) (k : Nat) :
    (packBits n p).testBit k = (decide (k < n) && p (n - 1 - k)) := by
  induction n generalizing k with
  | zero => simp [packBits]
  | succ n ih =>
    cases k with
    | zero => cases h : p n <;> simp [packBits, h, Nat.add_mod]
    | succ k =>
      have e : (2 * packBits n p + (p n).toNat) / 2 = packBits n p := by
        have : (p n).toNat ≤ 1 := Bool.toNat_le _
        omega
      simp only [packBits, Nat.testBit_succ, e, ih k]
      have h : n + 1 - 1 - (k + 1) = n - 1 - k := by omega
      have hk : decide (k + 1 < n + 1) = decide (k < n) := by simp
      rw [h, hk]

/-- A built row reads as its dots, and as paper beyond them (R4). -/
theorem rowDot_rowOf {n : Nat} (hn : n ≤ dotsPerRow) (p : Nat → Bool) (x : Nat) :
    rowDot (rowOf n p) x = (decide (x < n) && p x) := by
  have hlt := Nat.lt_of_lt_of_le (packBits_lt n p) (Nat.pow_le_pow_right (by omega) hn)
  unfold rowDot rowOf
  by_cases hx : x < dotsPerRow
  · rw [BitVec.getMsbD_eq_getLsbD]
    simp only [hx, decide_true, Bool.true_and, BitVec.getLsbD_shiftLeft]
    by_cases hxn : x < n
    · have h1 : dotsPerRow - 1 - x < dotsPerRow := by omega
      have h2 : ¬dotsPerRow - 1 - x < dotsPerRow - n := by omega
      have h3 : dotsPerRow - 1 - x - (dotsPerRow - n) = n - 1 - x := by omega
      have h4 : n - 1 - (n - 1 - x) = x := by omega
      have h5 : n - 1 - x < n := by omega
      simp only [h1, h2, h3, hxn, decide_true, decide_false, Bool.not_false, Bool.true_and]
      rw [BitVec.getLsbD_ofNat, packBits_testBit, h4]
      have h6 : n - 1 - x < dotsPerRow := by omega
      simp [h5, h6]
    · have h2 : dotsPerRow - 1 - x < dotsPerRow - n := by omega
      simp [h2, hxn]
  · have hxn : ¬x < n := by omega
    rw [BitVec.getMsbD_eq_getLsbD]
    simp [hx, hxn]

theorem rowDot_or (a b : Row) (x : Nat) : rowDot (a ||| b) x = (rowDot a x || rowDot b x) :=
  BitVec.getMsbD_or
theorem rowDot_and (a b : Row) (x : Nat) : rowDot (a &&& b) x = (rowDot a x && rowDot b x) :=
  BitVec.getMsbD_and
theorem rowDot_xor (a b : Row) (x : Nat) : rowDot (a ^^^ b) x = (rowDot a x ^^ rowDot b x) :=
  BitVec.getMsbD_xor
theorem rowDot_not (a : Row) {x : Nat} (h : x < dotsPerRow) : rowDot (~~~a) x = !rowDot a x := by
  unfold rowDot
  rw [BitVec.getMsbD_not]
  simp [h]

/-- A combined row, dot by dot: a covered dot takes the op under its mark, another keeps its value
(R8). -/
theorem rowDot_combineRow (op : CombineOp) (covered ink old : Row) {x : Nat} (h : x < dotsPerRow)
    (hi : rowDot ink x = true → rowDot covered x = true) :
    rowDot (combineRow op covered ink old) x =
      if rowDot covered x then opDot op (rowDot ink x) (rowDot old x) else rowDot old x := by
  cases op <;>
    simp only [combineRow, rowDot_or, rowDot_and, rowDot_xor, rowDot_not _ h, opDot] <;>
    cases hc : rowDot covered x <;> cases hk : rowDot ink x <;> simp_all

end Sys2Proof.Machine
end

