-- ==== Sys2Proof/Laws/Rendering.lean ====
section
/-! SUPPORT. What a band render comes to: painting entry by entry, painting on the machine, and a
render's way into admission, in the terms of Safety.lean; the cases of a grant and of the end of a
descriptor fetch. -/

namespace Sys2Proof.Machine

/-! ### Painting a table -/

/-- What painting one entry comes to, as a table of its own. -/
def EntryResult.alone : EntryResult → TableResult
  | .done e c => .painted [e] c
  | .waits e c address length work => .waits [e] 0 c address length work
  | .objectFault e c => .objectFault [e] 0 c

/-- A table of one entry is painted as its entry is. -/
theorem PaintEnv.paintTable_single (env : PaintEnv) (e : TableEntry) (c : Canvas) :
    env.paintTable [e] c = (env.beginEntry e c).alone := by
  simp only [PaintEnv.paintTable, TableResult.behind]
  cases env.beginEntry e c <;> rfl

/-- A table of one entry is resumed as its entry is. -/
theorem PaintEnv.resumeTable_single (env : PaintEnv) (e : TableEntry) (work : PaintWork)
    (bytes : List Byte) (c : Canvas) :
    env.resumeTable [e] 0 work bytes c = (env.resumeEntry e work bytes c).alone := by
  simp only [PaintEnv.resumeTable, PaintEnv.paintTable, TableResult.behind]
  cases env.resumeEntry e work bytes c <;> rfl

/-- Painting goes through a table in order, and stops where an entry stops it (R36, R37). -/
theorem PaintEnv.paintTable_append (env : PaintEnv) (after : List TableEntry) :
    ∀ (before : List TableEntry) (c : Canvas), env.paintTable (before ++ after) c =
      match env.paintTable before c with
      | .waits t k c' a n w => .waits (t ++ after) k c' a n w
      | .objectFault t k c' => .objectFault (t ++ after) k c'
      | .painted t c' =>
        match env.paintTable after c' with
        | .painted t' c'' => .painted (t ++ t') c''
        | .waits t' k c'' a n w => .waits (t ++ t') (before.length + k) c'' a n w
        | .objectFault t' k c'' => .objectFault (t ++ t') (before.length + k) c'' := by
  intro before
  induction before with
  | nil =>
    intro c
    simp only [List.nil_append, PaintEnv.paintTable]
    cases env.paintTable after c <;> simp
  | cons e t ih =>
    intro c
    simp only [List.cons_append, PaintEnv.paintTable]
    cases env.beginEntry e c with
    | done e' c' =>
      simp only [ih c']
      cases env.paintTable t c' with
      | painted t1 c1 =>
        simp only [TableResult.behind]
        cases env.paintTable after c1 <;> simp <;> omega
      | waits => simp [TableResult.behind]
      | objectFault => simp [TableResult.behind]
    | waits => simp
    | objectFault => simp

/-- A read's data resume the entry that waits for them; the entries before it stand, and painting goes
on with those after it (R37, R38). -/
theorem PaintEnv.resumeTable_append (env : PaintEnv) (e : TableEntry) (c : Canvas)
    (bytes : List Byte) (after : List TableEntry) (work : PaintWork) :
    ∀ before : List TableEntry,
      env.resumeTable (before ++ e :: after) before.length work bytes c =
        match env.resumeTable [e] 0 work bytes c with
        | .waits t k c' a n w => .waits (before ++ t ++ after) (before.length + k) c' a n w
        | .objectFault t k c' => .objectFault (before ++ t ++ after) (before.length + k) c'
        | .painted t c' =>
          match env.paintTable after c' with
          | .painted t' c'' => .painted (before ++ t ++ t') c''
          | .waits t' k c'' a n w =>
            .waits (before ++ t ++ t') (before.length + 1 + k) c'' a n w
          | .objectFault t' k c'' =>
            .objectFault (before ++ t ++ t') (before.length + 1 + k) c'' := by
  intro before
  induction before with
  | nil =>
    simp only [List.nil_append, List.length_nil, PaintEnv.resumeTable]
    cases env.resumeEntry e work bytes c with
    | done e' c' =>
      simp only [PaintEnv.paintTable, TableResult.behind]
      cases env.paintTable after c' <;> simp <;> omega
    | waits => simp
    | objectFault => simp
  | cons x t ih =>
    simp only [List.cons_append, List.length_cons, PaintEnv.resumeTable] at ih ⊢
    rw [ih]
    cases env.resumeEntry e work bytes c with
    | done e' c' =>
      simp only [PaintEnv.paintTable, TableResult.behind]
      cases env.paintTable after c' <;> simp <;> omega
    | waits => simp [TableResult.behind]
    | objectFault => simp [TableResult.behind]

/-- Rows of a BITMAP's source that the data do not reach are painted from nothing, and SHORT_SOURCE is
gained (R48, R49). -/
theorem PaintEnv.bitmapRows_short (env : PaintEnv) (e : TableEntry) (b : BitmapFields) (next : Nat)
    (kept : List Byte) (after : List Nat) :
    ∀ (shorts : List Nat) (c : Canvas), (∀ q ∈ shorts, next ≤ q ∧ b.short q = true) →
      env.bitmapRows e b next kept (shorts ++ after) c =
        env.bitmapRows e b next kept after { c with
          rows := shorts.foldl
            (fun rows q => env.paint e.op (env.bitmapMarks e.fields b q []) rows) c.rows
          shortSource := c.shortSource || !shorts.isEmpty } := by
  intro shorts
  induction shorts with
  | nil => intro c _; simp
  | cons q t ih =>
    intro c h
    have hq := h q (by simp)
    simp only [List.cons_append, PaintEnv.bitmapRows]
    rw [if_neg (by omega), if_pos hq.2, ih _ fun x hx => h x (by simp [hx])]
    simp [Canvas.paint]

/-! ### Painting on the machine -/

/-- What painting comes to on the machine, written out (R75). -/
theorem State.applyPainting_eq (s : State) (r : RenderRecord) (res : TableResult) :
    s.applyPainting r res = s.paintOutcome r res := by
  have kept (table : List TableEntry) (c : Canvas) (x : RenderRecord) :
      ((s.setTable r.side table).keepCanvas r c).setRender (some x) =
        { s.updateReport r.job (fun y => JobReport.gain c y) with
          tables := s.tables.set r.side table
          bands := s.bands.set r.buffer { s.bands.get r.buffer with rows := c.rows }
          render := some x } := by
    cases hj : r.job <;> simp only [State.keepCanvas, State.updateReport, hj] <;> rfl
  cases res with
  | painted table c => exact kept _ _ _
  | waits table place c a n w => exact kept _ _ _
  | objectFault table place c =>
    simp only [State.applyPainting, State.paintOutcome, State.faultRender, kept, entryIndex]
    cases table[place]? <;> rfl

/-- A change of a report keeps what a render reads. -/
theorem State.updateReport_keeps (s : State) (o : Owner) (f : JobReport → JobReport) :
    (s.updateReport o f).walkers = s.walkers ∧ (s.updateReport o f).tables = s.tables ∧
    (s.updateReport o f).bands = s.bands ∧ (s.updateReport o f).renderStates = s.renderStates := by
  cases o <;> exact ⟨rfl, rfl, rfl, rfl⟩

/-- A change of a report keeps every job's grid. -/
theorem State.gridOf_updateReport (s : State) (p : SetupParams) (o o' : Owner)
    (f : JobReport → JobReport) : (s.updateReport o f).gridOf p o' = s.gridOf p o' := by
  match o, o' with
  | .image, .image =>
    simp only [State.updateReport, State.updateImage, State.gridOf, State.setImage]
    cases s.image <;> rfl
  | .image, .label _ | .label _, .image => rfl
  | .label k, .label i =>
    have find : (s.labels.map (updateEntry k fun l => { l with report := f l.report })).find?
          (fun l => decide (l.ringIndex = i)) =
        (s.labels.find? fun l => decide (l.ringIndex = i)).map
          (updateEntry k fun l => { l with report := f l.report }) := by
      rw [List.find?_map]
      congr 2
      funext l
      unfold updateEntry
      simp only [Function.comp]
      split <;> rfl
    simp only [State.updateReport, State.updateLabel, State.gridOf, State.setLabels,
      State.findLabel, find]
    cases s.labels.find? fun l => decide (l.ringIndex = i) with
    | none => rfl
    | some l =>
      simp only [Option.map, updateEntry]
      split <;> rfl

/-! ### Admission -/

/-- Two states that a render `r` paints alike: render states, the job's grid and the buffers agree. -/
def State.paintsAs (v u : State) (p : SetupParams) (r : RenderRecord) : Prop :=
  v.renderStates = u.renderStates ∧ v.gridOf p r.job = u.gridOf p r.job ∧ v.bands = u.bands

/-- Painting from the start of the table, in the terms of another state that paints alike. -/
theorem State.startPaint_eq {v u : State} {p : SetupParams} {r : RenderRecord}
    (h : v.paintsAs u p r) :
    v.startPaint p r = v.paintOutcome r ((u.paintEnv p r).paintTable (v.tables.get r.side)
      ⟨(u.bands.get r.buffer).rows, false, false⟩) := by
  have env : v.paintEnv p r = u.paintEnv p r := by
    unfold State.paintEnv
    rw [h.1, h.2.1]
  unfold State.startPaint State.canvas
  rw [State.applyPainting_eq, env, h.2.2]

/-- Going on with no object pending, in the terms of another state that paints alike. -/
theorem State.nextObject_eq {v u : State} {p : SetupParams} {r : RenderRecord}
    (h : v.paintsAs u p r) :
    v.nextObject p r =
      if (v.walkers.get r.side).nextIndex < (v.walkers.get r.side).objectCount then
        { v with render := some { r with
            step := .admission
            read := .record ((v.walkers.get r.side).listAddress +
              BitVec.ofNat 32 (32 * (v.walkers.get r.side).nextIndex)) } }
      else v.paintOutcome r ((u.paintEnv p r).paintTable (v.tables.get r.side)
        ⟨(u.bands.get r.buffer).rows, false, false⟩) := by
  unfold State.nextObject
  simp only
  split
  · rfl
  · exact State.startPaint_eq h

/-- A render goes into admission as R24 to R28 say. -/
theorem State.startAdmission_outcome (s : State) (p : SetupParams) (r : RenderRecord) :
    AdmissionOutcome p r s (s.startAdmission p r) := by
  have alike (v : State) (f : JobReport → JobReport) (hr : v.renderStates = s.renderStates)
      (hg : ∀ o, v.gridOf p o = s.gridOf p o) (hb : v.bands = s.bands) :
      (v.updateReport r.job f).paintsAs s p r :=
    ⟨(v.updateReport_keeps _ _).2.2.2.trans hr, (v.gridOf_updateReport _ _ _ _).trans (hg _),
      (v.updateReport_keeps _ _).2.2.1.trans hb⟩
  refine ⟨fun h => ?_, fun o ho => ?_⟩
  · unfold State.startAdmission
    rw [h]
    exact State.nextObject_eq ⟨rfl, rfl, rfl⟩
  · have e : s.startAdmission p r = s.considerObject p r o := by
      unfold State.startAdmission
      rw [ho]
    rw [e]
    unfold State.considerObject
    refine ⟨fun h => ?_, fun h1 h2 h3 => ?_, fun h1 h2 => ?_, fun h1 h2 => ?_⟩
    · have same : s.setPendingObject r.side (some o) = s := by
        unfold State.setPendingObject State.setWalker
        rw [← ho, show ({ s.walkers.get r.side with
          pending := (s.walkers.get r.side).pending } : WalkerContext) = s.walkers.get r.side
          from rfl, PerRing.set_get]
      rw [if_pos (by omega), same]
      exact State.startPaint_eq ⟨rfl, rfl, rfl⟩
    · rw [if_neg (by omega), if_pos ⟨by omega, by omega⟩,
        State.nextObject_eq (alike (s.setPendingObject r.side none) _ rfl (fun _ => rfl) rfl)]
      cases r.job <;>
        simp only [State.updateReport, State.updateLabel, State.updateImage, State.setLabels,
          State.setImage, State.setPendingObject, State.setWalker, PerRing.get_set_self] <;>
        rfl
    · have late : decide (r.band ≠ 0 ∧ o.top < r.first) = decide (0 < r.band ∧ o.top < r.first) := by
        simp only [Nat.pos_iff_ne_zero]
      rw [if_neg (by omega), if_neg (by omega),
        if_pos (show (s.tables.get r.side).length < tableSize from h2), late,
        State.nextObject_eq (alike ((s.setPendingObject r.side none).setTable r.side
          (s.tables.get r.side ++ [o.entry (s.renderStates.get r.side)])) _ rfl (fun _ => rfl) rfl)]
      cases r.job <;>
        simp only [State.updateReport, State.updateLabel, State.updateImage, State.setLabels,
          State.setImage, State.setPendingObject, State.setWalker, State.setTable,
          PerRing.get_set_self] <;>
        rfl
    · rw [if_neg (by omega), if_neg (by omega),
        if_neg (show ¬(s.tables.get r.side).length < tableSize from Nat.not_lt.mpr h2)]
      rfl

/-! ### The grant and the end of a fetch -/

/-- A grant begins the render, and takes it into admission unless its job ends with the grant (R74,
R76, log 33). -/
theorem State.grant_cases (s : State) (p : SetupParams) (side : Ring) (o : Owner) (i : BufferId)
    (k rows : Nat) :
    let begun := s.beginRender p side o i k rows
    let r := grantRecord side o i k rows p.bandHeight
    (begun.endWaits = true ∧ s.grant p side o i k rows = begun) ∨
    (begun.endWaits = false ∧ s.grant p side o i k rows = begun.startAdmission p r ∧
      AdmissionOutcome p r begun (s.grant p side o i k rows)) := by
  intro begun r
  unfold State.grant
  cases h : begun.endWaits
  · exact .inr ⟨rfl, by simp [begun, r, h], by
      simpa [begun, r, h] using State.startAdmission_outcome begun p r⟩
  · exact .inl ⟨rfl, by simp [begun, h]⟩

/-- A descriptor fetch ends discarded, with FETCH_ERROR, with nothing left to take, or with its bytes
taken or checked (R148 to R150). -/
theorem State.endFetch_cases (s : State) (r : Ring) (marked : Bool)
    (result : BusRead (BitVec 256)) :
    (s.fetchDiscarded r marked = true ∧ s.endFetch r marked result = s.dropFetch r) ∨
    (s.fetchDiscarded r marked = false ∧ result = .busError ∧
      s.endFetch r marked result = (s.dropFetch r).faultRing r .faultedFetch) ∨
    (s.fetchDiscarded r marked = false ∧ ∃ d, result = .data d ∧
      ((s.fetchStale r = true ∧ s.endFetch r marked result = s.dropFetch r) ∨
      (s.fetchStale r = false ∧ (s.rings.get r).state = .active ∧
        s.endFetch r marked result = s.takeChecked r d) ∨
      (s.fetchStale r = false ∧ (∃ b, (s.rings.get r).state = .flushing b) ∧
        s.endFetch r marked result = s.takeFlushed r d))) := by
  unfold State.endFetch
  cases hd : s.fetchDiscarded r marked
  · cases result with
    | busError => exact .inr (.inl ⟨rfl, rfl, rfl⟩)
    | data d =>
      refine .inr (.inr ⟨rfl, d, rfl, ?_⟩)
      cases hs : s.fetchStale r
      · cases h : (s.rings.get r).state with
        | active => exact .inr (.inl ⟨rfl, rfl, rfl⟩)
        | flushing b => exact .inr (.inr ⟨rfl, ⟨b, rfl⟩, rfl⟩)
        | faultedOverrun | faultedFetch => simp [State.fetchDiscarded, h, RingState.faulted] at hd
      · exact .inl ⟨rfl, rfl⟩
  · exact .inl ⟨rfl, rfl⟩

end Sys2Proof.Machine
end

