-- ==== Sys2Proof/Tests/Slice0.lean ====
section
/-! SUPPORT. Small checks of the model, each named: the terms WellFormed refuses, the spec's worked
examples one event at a time, and for each statement with hypotheses a state that meets them. Expected
values are the spec's, with the table or rule they come from. -/

namespace Sys2Proof.Tests

set_option Elab.async false

open Sys2Proof Sys2Proof.Machine

/-! ### Helpers -/

/-- The state a command leads to. -/
def after (c : Instr) (s : State) : State :=
  match exec c s with
  | .next t => t
  | .fault _ | .refused _ => s

/-- A structure from its bytes in order. -/
def fromBytes (n : Nat) (bytes : List Nat) : BitVec n :=
  BitVec.ofNat n (bytes.foldr (fun b rest => b + 256 * rest) 0)

/-- The low and high byte of a u16. -/
def u16 (x : Nat) : List Nat := [x % 256, x / 256]

/-- Setup parameters of a session with W = 64 and rings of 4 slots. -/
def session : SetupParams where
  headWidth := 64
  bandHeight := 8
  stallThreshold := 2
  burnMain := 100
  burnBoost := 20
  coalesceCount := 3
  coalesceTime := 400
  ringBase := ⟨0x1000#32, 0x2000#32⟩
  ringSize := ⟨4, 4⟩
  completionBase := 0x3000#32
  completionSize := 4

/-- RUNNING with nothing going on. -/
def running : State :=
  { State.reset with
    engine := { EngineControl.initial with state := .running, params := some session } }

/-- A setup block with the session's fields and a PRINT ring size. -/
def setupBlock (printSize : Nat) : BitVec 512 :=
  fromBytes 512 ([64, 0, 8, 2, 100, 20, 3, 0] ++ u16 400 ++ [0, 0, 0, 0, 0, 0] ++
    [0x00, 0x10, 0, 0] ++ u16 printSize ++ [0, 0] ++ [0x00, 0x20, 0, 0, 4, 0, 0, 0] ++
    [0x00, 0x30, 0, 0, 4, 0, 0, 0])

/-- STARTING with the setup fetch in flight. -/
def starting : State :=
  { State.reset with
    engine := { EngineControl.initial with state := .starting, setupFetch := .inFlight } }

/-- A label of 12 rows at ring index 0, RENDERING and PRINTING, with PAD set. -/
def label : LabelEntry where
  ringIndex := 0#16
  tag := 7#16
  length := 12
  pad := true
  align := false
  markLimit := 2
  renderStatus := .rendering
  printStatus := .printing
  nextBand := 1
  cursor := 6
  rowsSent := 6
  rowsPadded := 0
  steps := 0
  signature := 0xFFFF#16
  report := ⟨⟨false, false, false, false⟩, none, 0xFFFF#16, 0⟩

/-- The label's buffer of band 0, in a state. -/
def band0 (st : BandState) : BandBuffer := ⟨st, some (.label 0#16), 0, 0, 8, paperRows⟩

/-- RUNNING with one label, a retire entry for it, and its buffer 0 PRINTING (Table 6-8). -/
def printing (l : LabelEntry) : State :=
  { running with
    labels := [l]
    completion := { CompletionUnit.initial with
      reserved := 1, retire := ⟨[⟨0#16, 7#16, 1#8, none⟩], []⟩ }
    bands := { State.reset.bands with b0 := band0 .printing } }

/-- A delivery of a row of the label from buffer 0. -/
def delivery : Delivery := ⟨0#16, .row 0, .mainBurn, Row.paper, Row.paper⟩

/-- A band render of the label's band 0 into buffer 0. -/
def rendering (step : RenderStep) (cut : Bool) (read : RenderRead) : State :=
  { printing label with
    bands := { State.reset.bands with b0 := band0 .filling }
    render := some ⟨.print, .label 0#16, 0, 0, 0, 7, step, 0, cut, read⟩ }

/-- An image job of 10 columns and 12 rows. -/
def job : ImageJob where
  ringIndex := 0#16
  tag := 9#16
  width := 10
  height := 12
  destination := 0x9000#32
  stride := 2
  phase := .requesting
  nextBand := 0
  buffer := none
  write := none
  signature := 0xFFFF#16
  report := ⟨⟨false, false, false, false⟩, none, 0xFFFF#16, 0⟩

/-- RUNNING with an image job. -/
def imaging (j : ImageJob) : State :=
  { running with
    image := some j
    completion := { CompletionUnit.initial with
      reserved := 1, retire := ⟨[], [⟨0#16, 9#16, 2#8, none⟩]⟩ } }

/-- The image job WRITING the last row of a band in buffer 0. -/
def writing : State :=
  { imaging { job with
      phase := .writing, nextBand := 1, buffer := some 0, write := some ⟨7, 0x900E#32, [0, 0]⟩ } with
    bands := { State.reset.bands with b0 := ⟨.draining, some .image, 0, 0, 8, paperRows⟩ } }

/-- A band render of the image job's band 0 into buffer 0, the job's status as given. -/
def imageRendering (step : RenderStep) (cut : Bool) (read : RenderRead) (st : Option Status) : State :=
  { imaging { job with
      phase := .rendering, buffer := some 0, report := { job.report with status := st } } with
    bands := { State.reset.bands with b0 := ⟨.filling, some .image, 0, 0, 8, paperRows⟩ }
    render := some ⟨.image, .image, 0, 0, 0, 7, step, 0, cut, read⟩ }

/-- The PRINT ring with a producer index, a state and a take in flight. -/
def printRing (producer : Half) (state : RingState) (take : TakeInFlight) : State :=
  { running with rings := ⟨⟨producer, 0#16, state, take⟩, RingRecord.initial⟩ }

/-- The completion unit with records posted and consumed. -/
def posted (cpost cread : Half) (timer : Option Nat) : State :=
  { running with
    completion := { CompletionUnit.initial with cpost := cpost, cread := cread, timer := timer } }

/-- A record's write in flight, with the records posted before it. -/
def postingRecord (cpost cread : Half) (timer : Option Nat) : State :=
  { running with
    completion := { CompletionUnit.initial with
      cpost := cpost
      cread := cread
      timer := timer
      reserved := 1
      retire := ⟨[finishedEntry 0#16 7#16 4#8 .ok], []⟩
      write := some ⟨.print, 0x3000#32, 0#128⟩ } }

/-- A LABEL of 12 rows with no state record, PAD set and mark limit 1, and its object list at 0x40. -/
def labelDescriptor : BitVec 256 :=
  fromBytes 256 ([1, 3] ++ u16 7 ++ [0, 0, 0, 0] ++ [0x40, 0, 0, 0] ++ u16 2 ++ u16 12 ++ u16 1)

/-- An IMAGE of 10 columns and 12 rows with stride 2. -/
def imageDescriptor (width stride : Nat) : BitVec 256 :=
  fromBytes 256 ([2, 0] ++ u16 9 ++ [0, 0, 0, 0] ++ [0x40, 0, 0, 0] ++ u16 0 ++ u16 width ++ u16 12 ++
    u16 stride ++ [0x00, 0x90, 0, 0])

/-- A RULE of 3 columns and 4 rows at (2, y), op code and all. -/
def ruleRecord (op y : Nat) : BitVec 256 :=
  fromBytes 256 ([1, op, 0, 0] ++ u16 2 ++ u16 y ++ u16 3 ++ u16 4)

/-! ### Ill-formed terms -/

theorem test_wellFormed_refuses_named_code : (Instr.cmdUndefinedCode 7#32).wellFormed = false := by
  decide
theorem test_wellFormed_refuses_writable_register :
    (Instr.registerWriteIgnored 0x24#6 .full 0#32).wellFormed = false := by decide
theorem test_wellFormed_refuses_no_data :
    (Instr.objectDataReadEnd (.data [])).wellFormed = false := by decide
theorem test_wellFormed_refuses_long_data :
    (Instr.objectDataReadEnd (.data (List.replicate 513 0#8))).wellFormed = false := by decide +kernel
/-- R207: 0x00000107 is refused, not taken as ENGINE_RESET. -/
theorem test_wellFormed_takes_undefined_code :
    (Instr.cmdUndefinedCode 0x107#32).wellFormed = true := by decide
/-- Table 11-14: codes 1 to 7 are START, STOP, ABORT_PRINT, ABORT_IMAGE, RESET_PRINT_RING,
RESET_IMAGE_RING and ENGINE_RESET, 0 and 8 name none; a 16-bit write of 1 is ignored. -/
theorem test_command_codes :
    (List.range 9).map (fun k => windowWrite 0#6 .full (BitVec.ofNat 32 k)) =
      [.cmdUndefinedCode 0#32, .start, .stop, .abortPrint, .abortImage, .resetPrintRing,
        .resetImageRing, .engineReset, .cmdUndefinedCode 8#32] ∧
    windowWrite 0#6 .sixteen 1#32 = .registerWriteIgnored 0#6 .sixteen 1#32 := by decide +kernel
theorem test_exec_refuses_named_code :
    exec (.cmdUndefinedCode 1#32) running = .refused .illFormed := rfl
theorem test_exec_refuses_writable_register :
    exec (.registerWriteIgnored 0#6 .full 1#32) running = .refused .illFormed := rfl

/-! ### Dots and covered sets -/

/-- One row with the clip and marks of Table 1-4, and an op. -/
def table14 (op : CombineOp) : List Byte :=
  let env : PaintEnv := ⟨{ RenderState.initial with clipRight := 6 }, 8, 1, 0, 0⟩
  let marks : Marks := fun x _ =>
    if 2 ≤ x ∧ x ≤ 7 then some (decide (x = 2 ∨ x = 3 ∨ x = 6)) else none
  (env.paint op marks [rowOf 8 fun x => decide (x % 2 = 0)]).map fun r => rowByte r 0

/-- Table 1-4: 0xAA becomes 0xBA, 0x8A, 0x9A and 0xB2. -/
theorem test_combine_ops : table14 .set = [0xBA#8] ∧ table14 .clear = [0x8A#8] ∧
    table14 .invert = [0x9A#8] ∧ table14 .replace = [0xB2#8] := by decide +kernel
/-- R10: the pattern row 0x01 has ink in its leftmost dot. -/
theorem test_pattern_bit_zero_is_leftmost :
    ({ RenderState.initial with pattern := 0x01#64 } : RenderState).patternAt 8 16 = true ∧
    ({ RenderState.initial with pattern := 0x01#64 } : RenderState).patternAt 15 16 = false := by
  decide +kernel
/-- Tables 3-3 and 3-4: halves round toward the start, whichever end that is. -/
theorem test_stroke_points :
    (List.range 5).map (StrokeLine.point ⟨0, 0, 4, 2⟩) = [(0, 0), (1, 0), (2, 1), (3, 1), (4, 2)] ∧
    (List.range 5).map (StrokeLine.point ⟨4, 2, 0, 0⟩) = [(4, 2), (3, 2), (2, 1), (1, 1), (0, 0)] := by
  decide +kernel
/-- Table 12-6: rows 1 to 5 of the stroke from (2, 1) to (9, 4) with width 2. -/
theorem test_stroke_covered :
    [1, 2, 3, 4, 5].map (fun y => (List.range 12).filter fun x =>
        StrokeLine.covers ⟨2, 1, 9, 4⟩ 2 (x : Nat) y) =
      [[2, 3, 4], [2, 3, 4, 5, 6], [4, 5, 6, 7, 8], [6, 7, 8, 9, 10], [8, 9, 10]] := by
  decide +kernel
/-- R59: X = 10, module width 2, runs 2, 1, 3: bar 10 to 13, space 14 to 15, bar 16 to 21. -/
theorem test_bars_layout :
    layoutBars 2 10 true [2#8, 1#8, 3#8] = [⟨10, 4, true⟩, ⟨14, 2, false⟩, ⟨16, 6, true⟩] := by decide
/-- Table 12-7: boost planes over six rows, the fifth padded. -/
theorem test_boost_planes :
    let row (n : Nat) : Row := rowOf 8 fun x => n.testBit (7 - x)
    boostPlane (row 0x3C) (row 0) (row 0) = row 0x3C ∧
    boostPlane (row 0x7E) (row 0x3C) (row 0) = row 0x42 ∧
    boostPlane (row 0x66) (row 0x7E) (row 0x3C) = row 0 ∧
    boostPlane (row 0x81) (row 0x66) (row 0x7E) = row 0x81 ∧
    boostPlane (row 0x81) (row 0) (row 0x81) = row 0 := by decide +kernel
/-- The CRC of the nine ASCII digits 1 to 9 (00_scope.md, The signature). -/
theorem test_signature_check_value :
    crcFeed 0xFFFF#16 [0x31#8, 0x32#8, 0x33#8, 0x34#8, 0x35#8, 0x36#8, 0x37#8, 0x38#8, 0x39#8] =
      0x29B1#16 := by decide +kernel

/-! ### Structures -/

/-- Table 11-3: the fields of a setup block at their offsets. -/
theorem test_setup_block_fields : readSetupBlock (setupBlock 4) = session := by decide +kernel
/-- Table 10-9: a PRINT ring size of 12 fails with code 4. -/
theorem test_setup_size_twelve : setupFaultCode (.data (setupBlock 12)) = 4 := by decide +kernel
/-- Table 11-5: kind, flags, tag and fields of a LABEL. -/
theorem test_label_descriptor : checkDescriptor .print labelDescriptor =
    .valid (.label ⟨true, true, 0#32, 0x40#32, 2, 12, 1⟩) := by decide +kernel
/-- R157: width 2048 passes, 2049 and a stride under ceil(width/8) do not. -/
theorem test_image_descriptor_limits :
    checkDescriptor .image (imageDescriptor 2048 256) =
      .valid (.image ⟨0#32, 0x40#32, 0, 2048, 12, 256, 0x9000#32⟩) ∧
    checkDescriptor .image (imageDescriptor 2049 257) = .badDescriptor ∧
    checkDescriptor .image (imageDescriptor 9 1) = .badDescriptor ∧
    checkDescriptor .print (imageDescriptor 8 1) = .badKind := by decide +kernel
/-- Tables 2-1 and 2-2: header and body of a RULE, op 7 being DEFAULT and op 4 invalid. -/
theorem test_rule_record :
    readObject RenderState.initial (ruleRecord 7 20) = some ⟨none, false, 2, 20, .rule 3 4⟩ ∧
    readObject RenderState.initial (ruleRecord 4 20) = none := by decide +kernel
/-- R18, R19: a STROKE's width 0 is the default stroke width, its end points signed. -/
theorem test_stroke_record :
    readObject { RenderState.initial with strokeWidth := 5 }
      (fromBytes 256 ([2, 2, 1, 0] ++ u16 65535 ++ u16 1 ++ u16 9 ++ u16 65534 ++ [0])) =
      some ⟨some .invert, true, -1, 1, .stroke 9 (-2) 5⟩ := by decide +kernel
/-- R85: op code 7 fails in a state record, unless its group is absent. -/
theorem test_state_record_default_op :
    stateRecordValid (fromBytes 384 (8 :: List.replicate 23 0 ++ [7])) = false ∧
    stateRecordValid (fromBytes 384 (0 :: List.replicate 23 0 ++ [7])) = true := by decide +kernel
/-- Table 11-7: the bytes of a record of an aborted LABEL with one row padded. -/
theorem test_completion_record :
    completionRecord .print
        ⟨0x0102#16, 0x0304#16, 1#8, none⟩ ⟨.aborted, ⟨true, false, false, true⟩, 1, 0x29B1#16, 5, 0xFFFF#16⟩ =
      fromBytes 128 [0x04, 0x03, 0x02, 0x01, 1, 1, 0, 0x09, 1, 0, 0xB1, 0x29, 5, 0, 0xFF, 0xFF] := by
  decide +kernel

/-! ### Engine and registers -/

/-- Table 10-9, first rows: START opens STARTING; a fetch that ends with size 12 goes to STOPPED with
SETUP_DONE. -/
theorem test_failed_start :
    (after .start State.reset).engine.state = .starting ∧
    (after (.setupFetchEnd (.data (setupBlock 12))) starting).engine.state = .stopped ∧
    (after (.setupFetchEnd (.data (setupBlock 12))) starting).cause = 0b001000#6 := by decide +kernel
/-- Table 10-9: a good block opens RUNNING. -/
theorem test_good_start :
    (after (.setupFetchEnd (.data (setupBlock 8))) starting).engine.state = .running := by decide +kernel
theorem test_stop_recorded_in_starting : (after .stop starting).engine.pendingStop = true := by
  decide +kernel
theorem test_stop_running_idle : (after .stop running).cause = 0b010000#6 := by decide +kernel
/-- R207: a second STOP in DRAINING is refused. -/
theorem test_second_stop_refused :
    (after .stop (after .stop (printing label))).cause = 0b100000#6 := by decide +kernel
theorem test_engine_reset_keeps_ien :
    (after .engineReset { running with ien := 0x3F#6 }).ien = 0x3F#6 := by decide +kernel
theorem test_engine_reset_stops : (after .engineReset (printing label)).labels = [] := by decide +kernel
theorem test_undefined_code_refused : (after (.cmdUndefinedCode 0x107#32) running).cause = 0b100000#6 := by
  decide +kernel
theorem test_setup_aligned : (after (.setupWrite 0xFFFFFFFF#32) running).setup = 0xFFFFFFC0#32 := by
  decide +kernel
theorem test_irq_on_enable :
    (after (.ienWrite 0x10#32) { running with cause := 0b010000#6 }).pins.irq = true := by decide +kernel
theorem test_narrow_write_ignored :
    (after (.registerWriteIgnored 0#6 .sixteen 7#32) running).engine.state = .running := by decide +kernel
/-- R182: 0x24 is IEN, 0x14 TAKEN with the IMAGE index above. -/
theorem test_register_reads :
    ({ running with ien := 5#6 } : State).readRegister 0x24 = 5#32 ∧
    ({ running with rings := ⟨⟨3#16, 1#16, .active, .none⟩, ⟨9#16, 2#16, .active, .none⟩⟩ } :
      State).readRegister 0x14 = 0x00020001#32 := by decide +kernel
theorem test_reset_n_holds : (after .start (after .resetN running)).engine.state = .stopped := by
  decide +kernel
theorem test_reset_n_released : (after .resetNDeasserted { running with resetHeld := true }).resetHeld =
    false := by decide +kernel
/-- R198: the fetch waits while a discarded transaction is outstanding. -/
theorem test_setup_fetch_waits :
    let waiting (n : Nat) : State :=
      { starting with engine := { starting.engine with setupFetch := .waiting, discarded := n } }
    (after .setupFetchStart (waiting 1)).engine.setupFetch = .waiting ∧
    (after .setupFetchStart (waiting 0)).engine.setupFetch = .inFlight ∧
    (after .discardedTransactionEnd (waiting 1)).engine.discarded = 0 := by decide +kernel
theorem test_drain_waits_for_label :
    (after .drainToStopped { printing label with
      engine := { running.engine with state := .draining } }).engine.state = .draining := by
  decide +kernel

/-! ### Rings -/

/-- R142: a count equal to the size is legal, one more is an overrun. -/
theorem test_producer_overrun :
    (after (.producerWrite .print 4#32) running).rings.print.state = .active ∧
    (after (.producerWrite .print 5#32) running).rings.print.state = .faultedOverrun := by decide +kernel
/-- R162: in FLUSHING a producer index below the boundary becomes the boundary. -/
theorem test_producer_trims_flush :
    (after (.producerWrite .print 2#32) (printRing 4#16 (.flushing 3#16) .none)).rings.print.state =
      .flushing 2#16 := by decide +kernel
theorem test_fetch_begins :
    (after (.descriptorFetchStart .print) (printRing 1#16 .active .none)).rings.print.take =
      .fetch 0x1000#32 false := by decide +kernel
/-- R149: a bus error faults the ring, with the descriptor untaken or its producer index moved back. -/
theorem test_fetch_error_faults :
    (after (.descriptorFetchEnd .print .busError)
      (printRing 1#16 .active (.fetch 0x1000#32 false))).rings.print.state = .faultedFetch ∧
    (after (.descriptorFetchEnd .print .busError)
      (printRing 0#16 .active (.fetch 0x1000#32 false))).rings.print.state = .faultedFetch := by
  decide +kernel
theorem test_label_taken :
    (after (.descriptorFetchEnd .print (.data labelDescriptor))
      (printRing 1#16 .active (.fetch 0x1000#32 false))).labels.map LabelEntry.length = [12] := by
  decide +kernel
theorem test_held_label_taken :
    (after .heldLabelTake (printRing 1#16 .active (.held labelDescriptor))).labels.map LabelEntry.length =
      [12] := by decide +kernel
theorem test_state_load_fault :
    let s : State := { running with
      loads := ⟨some ⟨.state 0#16, 0x40#32, 0#32, 0, false⟩, none⟩
      completion := { CompletionUnit.initial with
        reserved := 1, retire := ⟨[⟨0#16, 7#16, 3#8, none⟩], []⟩ } }
    (after (.stateRecordLoadEnd .print (.data 0x08#384)) s).completion.retire.print =
        [finishedEntry 0#16 7#16 3#8 .ok] ∧
    (after (.stateRecordLoadEnd .print .busError) s).completion.retire.print =
        [finishedEntry 0#16 7#16 3#8 .fetchError] := by decide +kernel
/-- R160: the abort's boundary is the producer index. -/
theorem test_abort_print_flushes :
    (after .abortPrint (printRing 3#16 .active .none)).rings.print.state = .flushing 3#16 := by
  decide +kernel
theorem test_abort_print_ends_label :
    (after .abortPrint (printing label)).labels.map LabelEntry.printStatus = [.ended] := by decide +kernel
theorem test_abort_image_requesting : (after .abortImage (imaging job)).image = none := by decide +kernel
theorem test_reset_print_ring :
    (after .resetPrintRing (printRing 3#16 .faultedFetch .none)).rings.print =
      ⟨3#16, 3#16, .active, .none⟩ := by decide +kernel
theorem test_reset_image_ring_refused : (after .resetImageRing (imaging job)).cause = 0b100000#6 := by
  decide +kernel

/-! ### Rendering -/

theorem test_grant_lowest_free :
    (after .rasterizerGrant { printing { label with nextBand := 1 } with
      walkers := ⟨⟨some (.label 0#16), 0x40#32, 2, 0, none⟩, WalkerContext.empty⟩ }).render.map
        (fun r => (r.buffer, r.first, r.last, r.read)) = some (1, 8, 11, .record 0x40#32) := by
  decide +kernel
/-- R74: an abort together with the grant cuts the render right after the clear: the pending object is
not counted, no record is fetched, and the buffer goes FILLING and then FREE. -/
theorem test_grant_with_abort :
    let o : PendingObject := ⟨0, ⟨some .set, false, 2, 8, .rule 3 4⟩, 8, 11⟩
    let s : State := { printing label with
      walkers := ⟨⟨some (.label 0#16), 0x40#32, 2, 1, some o⟩, WalkerContext.empty⟩
      pending := [.abortPrint] }
    let t := after .rasterizerGrant s
    let u := after .bandRenderCut (after .abortPrint t)
    t.render.map (fun r => (r.step, r.read)) = some (.clear, .none) ∧
    (t.bands.get 1).state = .filling ∧ (u.bands.get 1).state = .free ∧
    u.labels.map (fun l => l.report.admitted) = [0] := by decide +kernel
/-- Table 12-4, band 0: a RULE with top 12 becomes pending, its table entry not made. -/
theorem test_object_below_band_pends :
    let s : State := { rendering .admission false (.record 0x40#32) with
      walkers := ⟨⟨some (.label 0#16), 0x40#32, 2, 0, none⟩, WalkerContext.empty⟩ }
    (after (.recordFetchEnd (.data (ruleRecord 0 12))) s).walkers.print.pending =
      some ⟨0, ⟨some .set, false, 2, 12, .rule 3 4⟩, 12, 15⟩ := by decide +kernel
theorem test_record_fault_index :
    let s : State := { rendering .admission false (.record 0x40#32) with
      walkers := ⟨⟨some (.label 0#16), 0x40#32, 9, 5, none⟩, WalkerContext.empty⟩ }
    (after (.recordFetchEnd (.data (ruleRecord 4 2))) s).labels.map (fun l => l.report.faultIndex) =
      [5#16] := by decide +kernel
/-- R57: a run of 16 is an OBJECT_FAULT. -/
theorem test_bar_run_fault :
    let e : TableEntry :=
      ⟨3, ⟨some .set, false, 0, 0, .bars 0x50#32 1 1 4⟩, .set, 0, 3, .bars none⟩
    let s : State := { rendering .paint false (.object 0x50#32 1 .barRuns) with tables := ⟨[e], []⟩ }
    (after (.objectDataReadEnd (.data [16#8])) s).labels.map (fun l => l.report.status) =
        [some .objectFault] ∧
    (after (.objectDataReadEnd (.data [2#8])) s).bands.b0.rows.map (fun r => rowByte r 0) =
        List.replicate 4 0xC0#8 ++ List.replicate 60 0#8 := by decide +kernel
/-- Tables 3-8 to 3-10: with codes 5 and 200 examined, the record of code 7 places it at pen 9, sets the
placement list, and the first glyph row read is row 1 of code 5, on grid row 4. -/
theorem test_text_placed :
    let e : TableEntry :=
      ⟨3, ⟨some .set, false, 4, 10, .text 0x50#32 3 6 2⟩, .set, 4, 11, .text none⟩
    let g : GlyphItem := ⟨4, 5, 8, 7, 0x10#32⟩
    let r : RenderState := { RenderState.initial with
      glyphTable := 0x800#32, glyphCount := 100, glyphBase := 0x4000#32, extraSpacing := -1 }
    let s : State := { rendering .paint false
        (.object 0x838#32 8 (.textGlyph 7#16 [] [g] 9)) with
      tables := ⟨[e], []⟩, renderStates := ⟨r, r⟩ }
    let t := after (.objectDataReadEnd (.data [4#8, 3#8, 3#8, 5#8, 0#8, 1#8, 0#8, 0#8])) s
    t.tables.print.map TableEntry.progress = [.text (some [g, ⟨9, 4, 3, 3, 0x100#32⟩])] ∧
    t.render.map (fun x => match x.read with | .object a n _ => (a, n) | _ => (0#32, 0)) =
      some (0x4011#32, 1) := by decide +kernel
/-- R64: a rendered band is READY at the queue's tail. -/
theorem test_band_ready :
    (after .bandRenderEnd (rendering .retire false .none)).printQueue = [0] := by decide +kernel
theorem test_band_cut :
    (after .bandRenderCut (rendering .admission true .none)).bands.b0.state = .free := by decide +kernel
/-- R130: the image's first row, its bits beyond the width 0. -/
theorem test_image_row_bytes :
    job.rowWrite ⟨.draining, some .image, 0, 0, 8, [BitVec.allOnes dotsPerRow]⟩ 0 =
      ⟨0, 0x9000#32, [0xFF#8, 0xC0#8]⟩ := by decide +kernel
theorem test_row_write_error :
    (after (.rowWriteEnd .busError) writing).completion.retire.image.map
      (fun e => e.results.map Results.status) = [some .writeError] := by decide +kernel

/-! ### Printing -/

/-- Table 6-8: row 6 is taken from buffer 0; then row 7, early, is padded and pending. -/
theorem test_row_taken :
    (after .rowStep (printing label)).labels.map (fun l => (l.cursor, l.rowsSent)) = [(7, 7)] := by
  decide +kernel
theorem test_early_step_padded :
    let s : State := { printing { label with cursor := 7, rowsSent := 7 } with
      head := { HeadPort.initial with delivery := some delivery } }
    (after .rowStep s).labels.map (fun l => (l.cursor, l.rowsPadded)) = [(8, 1)] ∧
    (after .rowStep s).head.pendingPad = some ⟨0#16, 1⟩ ∧
    (after .rowStep s).bands.b0.state = .printing := by decide +kernel
/-- Table 6-8: at the end of row 6's delivery buffer 0 goes FREE and the padded delivery begins. -/
theorem test_padded_delivery_begins :
    let s : State := { printing { label with cursor := 8, rowsSent := 7, rowsPadded := 1 } with
      head := { HeadPort.initial with delivery := some delivery, pendingPad := some ⟨0#16, 1⟩ } }
    (after .burnMainEnd s).bands.b0.state = .free ∧
    (after .burnMainEnd s).head.delivery = some (paddedDelivery 0#16 1) := by decide +kernel
/-- R4, R107: the boost plane is shifted dot 0 first, W = 64 dots. -/
theorem test_boost_phase :
    let d : Delivery := { delivery with boost := rowOf 8 fun x => decide (x < 3) }
    let s : State := { printing label with head := { HeadPort.initial with delivery := some d } }
    (after .burnMainEnd s).pins.burnBoost = true ∧
    (after .burnMainEnd s).pins.shifted =
      [true, true, true] ++ List.replicate 61 false ∧
    (after .burnBoostEnd (after .burnMainEnd s)).head.delivery = none := by decide +kernel
/-- R101: a limit of 1 ends the label at its first ROW_STEP. -/
theorem test_mark_limit :
    (after .rowStep (printing { label with printStatus := .aligning, markLimit := 1 })).labels.map
      (fun l => l.report.status) = [some .noMark] := by decide +kernel
theorem test_mark :
    (after .mark (printing { label with printStatus := .aligning })).labels.map LabelEntry.printStatus =
      [.printing] := by decide +kernel
theorem test_leave_waiting :
    (after .leaveWaiting (printing { label with printStatus := .waiting, align := true })).labels.map
      LabelEntry.printStatus = [.aligning] := by decide +kernel
theorem test_label_leaves :
    (after .labelLeavesList (printing { label with
      printStatus := .ended
      renderStatus := .cut
      report := { label.report with status := some .aborted } })).completion.retire.print.map
        (fun e => e.results.map Results.status) = [some .aborted] := by decide +kernel
/-- R117's example: S = 16, B = 16, L above 16: STALL is asserted as soon as the first row goes out. -/
theorem test_stall_example :
    let p := { session with bandHeight := 16, stallThreshold := 16 }
    let s : State := { printing { label with length := 40, cursor := 0, rowsSent := 0 } with
      engine := { running.engine with params := some p }
      bands := { State.reset.bands with b0 := { band0 .printing with count := 16 } } }
    s.settle.pins.stall = false ∧ (after .rowStep s).pins.stall = true := by decide +kernel

/-! ### Completions (Table 9-12: C = 3, T = 400) -/

theorem test_first_posting_starts_timer :
    (after (.completionWriteEnd .acknowledged) (postingRecord 0#16 0#16 none)).completion.timer =
      some 400 := by decide +kernel
theorem test_third_posting_sets_completion :
    (after (.completionWriteEnd .acknowledged) (postingRecord 2#16 0#16 (some 390))).cause = 1#6 := by
  decide +kernel
theorem test_clear_with_one_left_starts_timer :
    (after (.causeWrite 1#32) { posted 3#16 2#16 none with cause := 1#6 }).completion.timer = some 400 := by
  decide +kernel
theorem test_clear_with_three_left_sets_again :
    (after (.causeWrite 1#32) { posted 3#16 0#16 none with cause := 1#6 }).cause = 1#6 := by decide +kernel
theorem test_timer_expiry :
    (after .coalescingTimerExpiry (posted 2#16 1#16 (some 1))).cause = 1#6 := by decide +kernel
theorem test_cread_consumes_last :
    (after (.creadWrite 2#32) (posted 2#16 1#16 (some 9))).completion.timer = none := by decide +kernel
theorem test_cread_behind_refused :
    (after (.creadWrite 0#32) (posted 2#16 1#16 none)).cause = 0b100000#6 := by decide +kernel
/-- R173: the slot of CPOST modulo size. -/
theorem test_write_address :
    (after .completionWriteStart { postingRecord 6#16 5#16 none with
      completion := { (postingRecord 6#16 5#16 none).completion with write := none } }).completion.write.map
        CompletionWrite.address = some 0x3020#32 := by decide +kernel
theorem test_lost_record_halts :
    (after (.completionWriteEnd .busError) (postingRecord 0#16 0#16 none)).engine.haltReason =
      .printRecord := by decide +kernel

/-! ### Witnesses

For each statement with hypotheses, states that meet them, clause by clause. -/

theorem witness_StepRunsFrontCommand :
    ({ running with pending := [.stop] } : State).pending = [Instr.stop] := rfl
theorem witness_CoalescingTimerRuns :
    (posted 1#16 0#16 (some 1)).resetHeld = false ∧ (posted 1#16 0#16 (some 1)).pending = [] ∧
    (posted 1#16 0#16 (some 1)).completion.timer ≠ none ∧
    (posted 1#16 0#16 (some 2)).completion.timer = some (0 + 2) ∧
    running.completion.timer = none := by decide +kernel
theorem witness_ResetNHolds :
    ({ running with resetHeld := true } : State).resetHeld = true ∧
    Instr.start.wellFormed = true ∧ Instr.start ≠ .resetN ∧ Instr.start ≠ .resetNDeasserted := by
  decide +kernel
theorem witness_IllFormedTermsStop :
    1 ≤ (1#32).toNat ∧ (1#32).toNat ≤ 7 ∧ 1 ≤ (7#32).toNat ∧ (7#32).toNat ≤ 7 ∧
    (0x24#6).toNat ∈ [0x00, 0x08, 0x0C, 0x10, 0x1C, 0x20, 0x24] := by decide
theorem witness_RefusedCommands :
    running.resetHeld = false ∧ running.engine.state ≠ .stopped ∧ State.reset.resetHeld = false ∧
    State.reset.engine.state ≠ .starting ∧ State.reset.engine.state ≠ .running ∧
    State.reset.engine.state ≠ .draining ∧ (printing label).engine.state = .running ∧
    (printing label).completion.retire.print ≠ [] ∧ (imaging job).completion.retire.image ≠ [] ∧
    State.reset.engine.state = .stopped ∧ (0#32).toNat = 0 ∧ 7 < (8#32).toNat := by decide +kernel
theorem witness_IgnoredWrites :
    WindowSound State.reset ∧ AccessWidth.eight ≠ .full ∧
    AccessWidth.twentyFour ≠ .full ∧
    (0x04#6).toNat ∉ [0x00, 0x08, 0x0C, 0x10, 0x1C, 0x20, 0x24] ∧
    (0x02#6).toNat ∉ [0x00, 0x08, 0x0C, 0x10, 0x1C, 0x20, 0x24] := by
  unfold WindowSound
  decide +kernel
theorem witness_SetupRegister :
    State.reset.resetHeld = false ∧ State.reset.engine.state = .stopped := by decide
theorem witness_EnablesAndIrq : ∃ t, exec .coalescingTimerExpiry running = .next t ∧
    running.resetHeld = false ∧ t.resetHeld = false := ⟨_, rfl, rfl, rfl⟩
theorem witness_StallAndBurnPins :
    let d : Delivery := { delivery with boost := rowOf 8 fun _ => true }
    let s : State := { printing label with head := { HeadPort.initial with delivery := some d } }
    (∃ t, exec .rowStep (printing label) = .next t ∧ (printing label).resetHeld = false ∧
      t.resetHeld = false ∧ t.engine.params = some session ∧
      t.head.delivery.map Delivery.phase = some .mainBurn) ∧
    (∃ t, exec .burnMainEnd s = .next t ∧ s.resetHeld = false ∧ t.resetHeld = false ∧
      t.engine.params = some session ∧ t.head.delivery.map Delivery.phase = some .boostBurn) ∧
    (∃ t, exec .mark running = .next t ∧ running.resetHeld = false ∧ t.resetHeld = false ∧
      t.head.delivery = none) ∧
    session.headWidth ≤ 2048 ∧ 7 < session.headWidth / 8 := by
  refine ⟨⟨_, State.act_live _ rfl, ?_⟩, ⟨_, by unfold exec execBurnMainEnd; exact State.act_live _ rfl, ?_⟩,
    ⟨_, by unfold exec execMark; exact State.act_live _ rfl, ?_⟩, ?_⟩ <;> decide +kernel
theorem witness_RegisterReads : running.resetHeld = false ∧ 0x24 % 4 = 0 ∧ 3 < 4 := by decide
theorem witness_StartOpensSession :
    let waiting : State := { starting with engine := { starting.engine with setupFetch := .waiting } }
    State.reset.resetHeld = false ∧ State.reset.engine.state = .stopped ∧
    waiting.resetHeld = false ∧ waiting.engine.state = .starting ∧
    waiting.engine.setupFetch = .waiting := by decide +kernel
theorem witness_StopCommand :
    starting.resetHeld = false ∧ starting.engine.state = .starting ∧ running.engine.state = .running ∧
    running.labels = [] ∧ running.head.delivery = none ∧ (printing label).engine.state = .running ∧
    (printing label).labels ≠ [] := by decide +kernel
theorem witness_EngineResetCommand :
    let halted : State := { running with engine := { running.engine with state := .halted } }
    halted.resetHeld = false ∧ halted.engine.state = .halted ∧ running.engine.state ≠ .halted ∧
    running.engine.setupFetch = .idle ∧ running.rings.print.take = .none ∧
    running.rings.image.take = .none ∧ running.loads.print = none ∧ running.loads.image = none ∧
    running.render = none ∧ running.image = none ∧ running.completion.write = none := by
  decide +kernel
theorem witness_SetupFaultCodes :
    starting.resetHeld = false ∧ starting.engine.state = .starting ∧
    starting.engine.setupFetch = .inFlight := by decide
theorem witness_SetupOutcome :
    starting.resetHeld = false ∧ starting.engine.state = .starting ∧
    starting.engine.setupFetch = .inFlight ∧ setupFaultCode (.data (setupBlock 12)) ≠ 0 ∧
    setupFaultCode (.data (setupBlock 256)) = 0 ∧ starting.engine.pendingStop = false ∧
    starting.rings.print.state = .active ∧ starting.rings.image.state = .active := by decide +kernel
theorem witness_DrainEnds :
    let draining (s : State) : State := { s with engine := { running.engine with state := .draining } }
    (draining running).resetHeld = false ∧ (draining running).engine.state = .draining ∧
    (draining running).labels = [] ∧ (draining running).head.delivery = none ∧
    (draining (printing label)).labels ≠ [] := by decide +kernel
theorem witness_ProducerWrites :
    let stored (v : Half) : RingRecord := { RingRecord.initial with producer := v }
    starting.engine.state = .starting ∧ running.resetHeld = false ∧ running.engine.state = .running ∧
    running.engine.params = some session ∧
    (printRing 9#16 .faultedFetch .none).rings.print.state = .faultedFetch ∧
    running.rings.print.state = .active ∧ (stored 4#16).posted ≤ session.ringSize.print ∧
    running.rings.print.state.faulted = false ∧ session.ringSize.print < (stored 5#16).posted ∧
    (printRing 4#16 (.flushing 4#16) .none).rings.print.state = .flushing 4#16 := by decide +kernel
theorem witness_ConsumerWrites :
    let s := posted 3#16 1#16 none
    s.resetHeld = false ∧ (1#16 : Half) = s.completion.cread ∧ (3#16 : Half) ≠ s.completion.cread ∧
    (3#16 - s.completion.cread).toNat ≤ (s.completion.cpost - s.completion.cread).toNat ∧
    (s.completion.cpost - s.completion.cread).toNat < (4#16 - s.completion.cread).toNat := by
  decide +kernel
theorem witness_CauseWrites :
    running.resetHeld = false ∧ (0#32).getLsbD 0 = false ∧ (1#32).getLsbD 0 = true ∧
    running.engine.params = some session ∧
    session.coalesceCount ≤ (posted 3#16 0#16 none).unconsumed ∧
    1 ≤ (posted 2#16 0#16 none).unconsumed ∧
    (posted 2#16 0#16 none).unconsumed < session.coalesceCount ∧ 0 < session.coalesceTime ∧
    (posted 2#16 0#16 none).completion.timer = none ∧ (posted 0#16 0#16 none).unconsumed = 0 := by
  decide +kernel
theorem witness_DescriptorFetchBegins :
    let s := printRing 1#16 .active .none
    let f := printRing 1#16 (.flushing 1#16) .none
    let both (n : Nat) : State := { s with
      rings := ⟨s.rings.print, ⟨1#16, 0#16, .active, .none⟩⟩
      completion := { s.completion with reserved := n } }
    let free (t : State) := session.completionSize - t.completion.reserved -
      (t.completion.cpost - t.completion.cread).toNat
    s.resetHeld = false ∧ s.engine.params = some session ∧ s.engine.state = .running ∧
    s.rings.print.take = .none ∧ s.completion.retire.print.length < 8 ∧
    s.rings.print.state = .active ∧ s.rings.print.producer ≠ s.rings.print.consumer ∧
    s.labels = [] ∧ s.loads.print = none ∧
    f.rings.print.state = .flushing 1#16 ∧ f.rings.print.consumer ≠ 1#16 ∧
    s.rings.image.producer = s.rings.image.consumer ∧ s.rings.image.state = .active ∧
    free (both 4) = 0 ∧ free (both 2) = 2 ∧ free (both 3) = 1 ∧ free s = 4 ∧
    (both 3).engine.params = some session ∧ (both 3).rings.image.take = .none ∧
    (both 3).completion.retire.image.length < 8 ∧ (both 3).rings.image.state = .active ∧
    (both 3).rings.image.producer ≠ (both 3).rings.image.consumer ∧ (both 3).image = none ∧
    (both 3).loads.image = none := by decide +kernel
/-- The IMAGE ring with one descriptor untaken and its fetch in flight. -/
def imageFetch : State :=
  { running with rings := ⟨RingRecord.initial, ⟨1#16, 0#16, .active, .fetch 0x2000#32 false⟩⟩ }
theorem witness_FetchAnswers :
    FetchAnswers (printRing 1#16 .active (.fetch 0x1000#32 false)) .print ∧
    FetchAnswers (printRing 2#16 (.flushing 2#16) (.fetch 0x1000#32 false)) .print ∧
    FetchAnswers imageFetch .image := by
  unfold FetchAnswers
  exact ⟨⟨rfl, ⟨_, rfl⟩, by decide +kernel⟩, ⟨rfl, ⟨_, rfl⟩, by decide +kernel⟩,
    ⟨rfl, ⟨_, rfl⟩, by decide +kernel⟩⟩
theorem witness_DescriptorFetchError :
    let s (producer : Half) := printRing producer .active (.fetch 0x1000#32 false)
    (s 1#16).resetHeld = false ∧ (s 1#16).engine.state = .running ∧
    (s 1#16).rings.print.take = .fetch 0x1000#32 false ∧
    (s 1#16).rings.print.state ≠ .faultedOverrun ∧ (s 1#16).rings.print.state ≠ .faultedFetch ∧
    (s 0#16).rings.print.take = .fetch 0x1000#32 false ∧
    (s 0#16).rings.print.producer = (s 0#16).rings.print.consumer := by decide +kernel
theorem witness_DescriptorFetchDiscarded :
    let s := printRing 1#16 .active (.fetch 0x1000#32 true)
    let moved := printRing 0#16 .active (.fetch 0x1000#32 false)
    let busy : State := { printing label with
      rings := ⟨⟨1#16, 0#16, .active, .fetch 0x1000#32 false⟩, RingRecord.initial⟩ }
    s.resetHeld = false ∧ s.rings.print.take = .fetch 0x1000#32 true ∧ s.engine.state ≠ .halted ∧
    ({ s with engine := { s.engine with state := .halted } } : State).engine.state = .halted ∧
    (printRing 1#16 .faultedFetch (.fetch 0x1000#32 false)).rings.print.state.faulted = true ∧
    moved.resetHeld = false ∧ moved.engine.state = .running ∧
    moved.rings.print.take = .fetch 0x1000#32 false ∧
    moved.rings.print.producer = moved.rings.print.consumer ∧
    busy.resetHeld = false ∧ busy.engine.state = .running ∧
    busy.rings.print.take = .fetch 0x1000#32 false ∧ busy.rings.print.state = .active ∧
    busy.sideIdle .print = false := by decide +kernel
theorem witness_FinishedAtTheTake :
    let kind (k : Nat) : BitVec 256 := fromBytes 256 [k]
    let u8 (d : BitVec 256) := (d.extractLsb' 0 8).toNat
    let flushing := printRing 2#16 (.flushing 2#16) (.fetch 0x1000#32 false)
    let active := printRing 1#16 .active (.fetch 0x1000#32 false)
    (FetchAnswers active .print ∧ FetchAnswers flushing .print ∧ FetchAnswers imageFetch .image) ∧
    flushing.resetHeld = false ∧ flushing.rings.print.state = .flushing 2#16 ∧
    active.resetHeld = false ∧ active.rings.print.state = .active ∧
    imageFetch.resetHeld = false ∧ imageFetch.rings.image.state = .active ∧
    u8 (kind 0) = 0 ∧ 5 ≤ u8 (kind 5) ∧ u8 labelDescriptor = 1 ∧ u8 (imageDescriptor 8 1) = 2 ∧
    u8 (kind 3) = 3 ∧ ((kind 3).extractLsb' 32 32).toNat = 0 ∧ u8 (kind 4) = 4 ∧
    u8 (kind 1) = 1 ∧ ((kind 1).extractLsb' 112 16).toNat = 0 ∧
    ((imageDescriptor 9 1).extractLsb' 144 16).toNat <
      (((imageDescriptor 9 1).extractLsb' 112 16).toNat + 7) / 8 :=
  ⟨witness_FetchAnswers, by decide +kernel⟩
theorem witness_LabelTaken :
    let s := printRing 1#16 .active (.fetch 0x1000#32 false)
    let four : State := { s with labels := [1#16, 2#16, 3#16, 4#16].map fun i =>
      { label with ringIndex := i, renderStatus := .rendered } }
    let held := printRing 1#16 .active (.held labelDescriptor)
    s.resetHeld = false ∧ labelDescriptor.extractLsb' 0 8 = 1#8 ∧
    (labelDescriptor.extractLsb' 64 32).toNat % 32 = 0 ∧
    (labelDescriptor.extractLsb' 112 16).toNat ≠ 0 ∧ labelDescriptor.getLsbD 9 = true ∧
    (labelDescriptor.extractLsb' 128 16).toNat ≠ 0 ∧ s.rings.print.state = .active ∧
    s.engine.state = .running ∧ s.rings.print.posted ≠ 0 ∧
    (∀ l ∈ four.labels, l.ringIndex ≠ four.rings.print.consumer) ∧
    four.rings.print.take = .fetch 0x1000#32 false ∧ four.sideIdle .print = true ∧
    four.labels.length = 4 ∧ s.labels.length < 4 ∧ s.sideIdle .print = true ∧
    held.rings.print.take = .held labelDescriptor ∧ held.labels.length < 4 := by decide +kernel
theorem witness_ImageTaken :
    let d := imageDescriptor 2048 256
    FetchAnswers imageFetch .image ∧ imageFetch.resetHeld = false ∧
    imageFetch.rings.image.state = .active ∧
    d.extractLsb' 0 8 = 2#8 ∧ (d.extractLsb' 64 32).toNat % 32 = 0 ∧
    1 ≤ (d.extractLsb' 112 16).toNat ∧ (d.extractLsb' 112 16).toNat ≤ 2048 ∧
    (d.extractLsb' 128 16).toNat ≠ 0 ∧
    ((d.extractLsb' 112 16).toNat + 7) / 8 ≤ (d.extractLsb' 144 16).toNat :=
  ⟨witness_FetchAnswers.2.2, by decide +kernel⟩
theorem witness_StateDescriptorTaken :
    let d : BitVec 256 := fromBytes 256 [3, 0, 0, 0, 1, 0, 0, 0]
    FetchAnswers imageFetch .image ∧ imageFetch.resetHeld = false ∧
    imageFetch.rings.image.state = .active ∧
    d.extractLsb' 0 8 = 3#8 ∧ d.extractLsb' 32 32 ≠ 0#32 :=
  ⟨witness_FetchAnswers.2.2, by decide +kernel⟩
theorem witness_AbortFlushes :
    let loading (load : LoadJob) : State := { printRing 3#16 .active .none with
      loads := ⟨some ⟨load, 0x40#32, 0#32, 0, false⟩, none⟩ }
    (loading (.state 0#16)).resetHeld = false ∧ (loading (.state 0#16)).engine.state = .running ∧
    (printRing 3#16 .active .none).resetHeld = false ∧
    (printRing 3#16 .active .none).engine.state = .running ∧
    (printRing 3#16 .active .none).rings.print.state = .active ∧
    (printRing 3#16 .active .none).rings.print.posted ≠ 0 ∧
    (printRing 0#16 .active .none).rings.print.posted = 0 ∧
    (printRing 1#16 .active (.held labelDescriptor)).rings.print.take = .held labelDescriptor ∧
    (printRing 3#16 (.flushing 2#16) .none).rings.print.state = .flushing 2#16 ∧
    (loading (.state 0#16)).loads.print.map StateLoad.job = some (.state 0#16) ∧
    (loading (.label 0#16)).loads.print.map StateLoad.job = some (.label 0#16) := by decide +kernel
theorem witness_AbortPrintEndsLabels :
    (printing label).resetHeld = false ∧ (printing label).engine.state = .running ∧
    ((printing label).labels.map LabelEntry.ringIndex).Nodup ∧ label.printStatus ≠ .ended ∧
    ({ label with printStatus := .ended } : LabelEntry).printStatus = .ended := by decide +kernel
theorem witness_AbortImageByPhase :
    let r := imageRendering .paint false (.object 0x50#32 1 .barRuns) none
    let ended := imageRendering .paint true (.object 0x50#32 1 .barRuns) (some .aborted)
    let between : State := { writing with image := writing.image.map fun j => { j with write := none } }
    (imaging job).resetHeld = false ∧ (imaging job).engine.state = .running ∧
    (imaging job).image = some job ∧ job.report.status = none ∧ job.phase = .requesting ∧
    (imaging job).render = none ∧ (imaging job).rings.image.take = .none ∧
    r.resetHeld = false ∧ r.engine.state = .running ∧
    r.image.map (fun j => (j.phase, j.report.status)) = some (.rendering, none) ∧
    r.render.map RenderRecord.job = some .image ∧
    ended.image.map (fun j => j.report.status) = some (some .aborted) ∧
    (rendering .admission false .none).render.map RenderRecord.job ≠ some .image ∧
    writing.image.map (fun j => (j.phase, j.report.status)) = some (.writing, none) ∧
    (writing.image.bind ImageJob.write) ≠ none ∧
    between.resetHeld = false ∧ between.engine.state = .running ∧
    between.rings.image.take = .none ∧
    between.image.map (fun j => (j.phase, j.write, j.buffer, j.report.status)) =
      some (.writing, none, some 0, none) ∧ running.image = none := by decide +kernel
theorem witness_RingResetAccepted :
    running.resetHeld = false ∧ running.engine.state = .running ∧
    running.completion.retire.get .image = [] := by decide +kernel
theorem witness_StateRecords :
    stateRecordValid (0#384) = true ∧
    stateRecordValid (fromBytes 384 (0xEF :: List.replicate 25 0 ++ [8])) = true ∧
    (fromBytes 384 (0xEF :: List.replicate 25 0 ++ [8])).getLsbD 7 = true := by
  decide +kernel
theorem witness_StateLoadEnds :
    let l : LabelEntry := { label with renderStatus := .loading, printStatus := .waiting }
    let s (load : LoadJob) : State := { printing l with
      image := some { job with phase := .loading }
      loads := ⟨some ⟨load, 0x40#32, 0x80#32, 1, false⟩, some ⟨.image, 0x40#32, 0x80#32, 1, false⟩⟩ }
    (s (.state 0#16)).resetHeld = false ∧ (s (.state 0#16)).engine.state = .running ∧
    (s (.label 0#16)).loads.print.map StateLoad.job = some (.label l.ringIndex) ∧
    (s (.label 0#16)).onlyLabel l ∧ l.renderStatus = .loading ∧
    (s (.label 0#16)).rendersJob (.label 0#16) = false ∧ l.printStatus ≠ .ended ∧
    stateRecordValid (0#384) = true ∧ stateRecordValid (0x08#384) = true ∧
    stateRecordValid (fromBytes 384 (8 :: List.replicate 23 0 ++ [4])) = false ∧
    (s (.state 0#16)).loads.image.map StateLoad.job = some .image ∧
    (s (.state 0#16)).image.map (fun j => j.report.status) = some none ∧
    (imageRendering .paint true .none (some .aborted)).image.map (fun j => j.report.status) =
      some (some .aborted) := by
  unfold State.onlyLabel
  decide +kernel
theorem witness_RasterizerGrants :
    let w (n : Nat) : WalkerContext := ⟨some (.label 0#16), 0x40#32, n, 0, none⟩
    let o : PendingObject := ⟨0, ⟨some .set, false, 2, 8, .rule 3 4⟩, 8, 11⟩
    let s (n : Nat) : State := { printing label with walkers := ⟨w n, w n⟩ }
    let carried (pending : Option PendingObject) : State := { printing label with
      walkers := ⟨{ w 2 with nextIndex := 1, pending := pending }, w 0⟩
      tables := ⟨[⟨0, ⟨some .set, false, 2, 7, .rule 3 4⟩, .set, 7, 10, .rule⟩], []⟩ }
    let free : State := { imaging job with walkers := ⟨w 0, w 0⟩ }
    let beside : State := { free with labels := [{ label with renderStatus := .loading }] }
    let aborting (s : State) (c : Instr) : State := { s with pending := [c] }
    (s 1).resetHeld = false ∧ (s 1).engine.params = some session ∧ (s 1).engine.state = .running ∧
    (s 1).render = none ∧ ((s 1).bands.get 1).state = .free ∧
    (∀ j < (1 : BufferId), ((s 1).bands.get j).state ≠ .free) ∧ (s 1).onlyLabel label ∧
    label.renderStatus = .rendering ∧ label.printStatus ≠ .ended ∧
    (∀ m ∈ (s 1).labels, m.busy = true → m = label) ∧ label.nextBand * 8 < label.length ∧
    0 < session.bandHeight ∧ (s 1).pending = [] ∧
    (s 1).walkers.print.nextIndex < (s 1).walkers.print.objectCount ∧
    (s 0).walkers.print.nextIndex = (s 0).walkers.print.objectCount ∧ (s 0).tables.print = [] ∧
    (carried (some o)).walkers.print.pending = some o ∧ o.top ≤ (11 : Nat) ∧
    ((8 : Nat) : Int) ≤ o.bottom ∧ (carried none).tables.print.length = 1 ∧
    (aborting (s 1) .abortPrint).pending = [Instr.abortPrint] ∧
    (aborting free .abortImage).pending = [Instr.abortImage] ∧
    free.engine.params = some session ∧ free.render = none ∧ free.engine.state = .running ∧
    free.image = some job ∧ job.phase = .requesting ∧ job.report.status = none ∧
    job.nextBand * 8 < job.height ∧ free.labels = [] ∧ (free.bands.get 0).state = .free ∧
    (∀ l ∈ beside.labels, l.renderStatus ≠ .rendering) ∧ beside.labels ≠ [] ∧
    (beside.bands.get 1).state = .free ∧
    (rendering .admission false .none).render ≠ none ∧ running.image = none := by
  unfold State.onlyLabel
  decide +kernel
/-- The boundary after the clear: a grant with an abort of its label waiting stands there. -/
theorem witness_RasterizerGrants_clear :
    let s : State := { printing label with pending := [.rasterizerGrant, .abortPrint] }
    s.render = none ∧ ∃ t r, step s = .next t ∧ t.render = some r ∧ r.step = .clear :=
  ⟨rfl, _, _, rfl, rfl, rfl⟩
/-- A ROW_STEP that waits behind a grant: with row 8 due and not rendered it ends its label under ABORT,
and the render stands after its clear; under PAD, and with the other side's abort waiting, it goes on. -/
theorem witness_RasterizerGrants_event :
    let s (pad : Bool) (c : Instr) : State := { printing { label with cursor := 8, pad := pad } with
      pending := [.rasterizerGrant, c] }
    let after (s : State) : Option RenderStep := match step s with
      | .next t => t.render.map RenderRecord.step
      | .fault _ | .refused _ => none
    (s false .rowStep).onlyLabel { label with cursor := 8, pad := false } ∧
    after (s false .rowStep) = some .clear ∧ after (s true .rowStep) ≠ some .clear ∧
    after (s false .abortImage) ≠ some .clear := by
  unfold State.onlyLabel
  decide +kernel
theorem witness_RecordFetchFaults :
    let i := imageRendering .admission false (.record 0x40#32) none
    let s := rendering .admission false (.record 0x40#32)
    s.resetHeld = false ∧ s.engine.params = some session ∧ s.engine.state = .running ∧
    s.render.map RenderRecord.read = some (.record 0x40#32) ∧
    (rendering .admission true (.record 0x40#32)).render.map RenderRecord.cutPending = some true ∧
    readObject (s.renderStates.get .print) (ruleRecord 4 2) = none ∧
    s.render.map RenderRecord.job = some (.label label.ringIndex) ∧ s.onlyLabel label ∧
    label.printStatus ≠ .ended ∧
    i.resetHeld = false ∧ i.engine.params = some session ∧ i.engine.state = .running ∧
    i.render.map (fun r => (r.job, r.read, r.cutPending)) = some (.image, .record 0x40#32, false) ∧
    i.image.map (fun j => j.report.status) = some none ∧
    readObject (i.renderStates.get .image) (ruleRecord 4 2) = none := by
  unfold State.onlyLabel
  decide +kernel
theorem witness_Admission :
    let o (y : Int) : ObjectFields := ⟨some .set, false, 2, y, .rule 3 4⟩
    let s (band : Nat) (table : List TableEntry) : State := { rendering .admission false .none with
      walkers := ⟨⟨some (.label 0#16), 0x40#32, 2, 0, none⟩, WalkerContext.empty⟩
      tables := ⟨table, []⟩
      render := some ⟨.print, .label 0#16, 0, band, 8 * band, 8 * band + 7, .admission, 0, false,
        .record 0x40#32⟩ }
    let rs := RenderState.initial
    let full : List TableEntry := List.replicate 32 ⟨0, o 7, .set, 7, 10, .rule⟩
    (s 1 []).resetHeld = false ∧ (s 1 []).engine.params = some session ∧
    (s 1 []).engine.state = .running ∧
    (s 1 []).render.map (fun r => (r.read, r.cutPending)) = some (.record 0x40#32, false) ∧
    (s 1 []).renderStates.get .print = rs ∧
    (s 1 []).walkers.print.nextIndex + 1 < (s 1 []).walkers.print.objectCount ∧
    ¬({ (s 1 []).walkers.print with nextIndex := 1 } : WalkerContext).nextIndex + 1 < 2 ∧
    readObject rs (ruleRecord 0 4) = some (o 4) ∧ (extent rs (o 4)).1 ≤ (15 : Nat) ∧
    (extent rs (o 4)).2 < (8 : Nat) ∧
    readObject rs (ruleRecord 0 5) = some (o 5) ∧ (extent rs (o 5)).1 ≤ (15 : Nat) ∧
    ((8 : Nat) : Int) ≤ (extent rs (o 5)).2 ∧ (s 0 []).tables.print.length < 32 ∧
    readObject rs (ruleRecord 0 7) = some (o 7) ∧ (extent rs (o 7)).1 ≤ (7 : Nat) ∧
    32 ≤ (s 0 full).tables.print.length ∧
    readObject rs (ruleRecord 0 8) = some (o 8) ∧ (7 : Nat) < (extent rs (o 8)).1 := by decide +kernel
theorem witness_ObjectDataReads :
    let e : TableEntry :=
      ⟨3, ⟨some .set, false, 0, 0, .bars 0x50#32 1 1 4⟩, .set, 0, 3, .bars none⟩
    let s : State := { rendering .paint false (.object 0x50#32 1 .barRuns) with tables := ⟨[e], []⟩ }
    let bitmap : ObjectBody := .bitmap 10 3 2 2 3 0x50#32 5
    let text : ObjectBody := .text 0x50#32 3 6 2
    s.resetHeld = false ∧ s.engine.params = some session ∧ s.engine.state = .running ∧
    s.render.map (fun r => (r.read, r.entry, r.cutPending)) =
      some (.object 0x50#32 1 .barRuns, 0, false) ∧
    (rendering .paint true (.object 0x50#32 1 .barRuns)).render.map RenderRecord.cutPending =
      some true ∧
    (s.tables.get .print)[0]? = some e ∧ s.tables.print = [e] ∧ e.fields.body = .bars 0x50#32 1 1 4 ∧
    [16#8].length = 1 ∧ [16#8, 1#8].length ≠ 1 ∧ 15 < (16#8).toNat ∧ (0#8).toNat = 0 ∧
    1 ≤ (15#8).toNat ∧ (15#8).toNat ≤ 15 ∧
    ({ e.fields with body := bitmap } : ObjectFields).body = .bitmap 10 3 2 2 3 0x50#32 5 ∧
    (∀ q ∈ [2], 1 < q ∧ 5 < q * 2 + (10 + 7) / 8) ∧ 0 < 1 ∧ ¬5 < 1 * 2 + (10 + 7) / 8 ∧
    ({ e.fields with body := text } : ObjectFields).body = .text 0x50#32 3 6 2 ∧
    [200#16].length = 1 ∧ 100 ≤ (200#16).toNat ∧
    (7#16).toNat < 100 := by
  decide +kernel
theorem witness_PaintedDots :
    let env : PaintEnv := ⟨{ RenderState.initial with clipRight := 6 }, 2048, 24, 0, 7⟩
    let o (body : ObjectBody) : ObjectFields := ⟨some .set, false, 0, 6, body⟩
    let b : BitmapFields := ⟨10, 3, 2, 2, 3, 0x50#32, 5⟩
    let band (first last : Nat) : PaintEnv := { env with first := first, last := last }
    let body : ObjectBody := .bitmap 10 3 2 2 3 0x50#32 5
    let g : GlyphItem := ⟨4, 5, 8, 7, 0x10#32⟩
    let r := rendering .paint false .none
    let i := imageRendering .paint false .none none
    env.columns ≤ 2048 ∧ [Row.paper][0]? = some Row.paper ∧ 0 ≤ env.last ∧ 5 < env.columns ∧
    0 < env.gridRows ∧ env.rs.clipLeft ≤ 5 ∧ 5 < env.rs.clipRight ∧ ¬6 < env.rs.clipRight ∧
    r.render.map RenderRecord.job = some (.label label.ringIndex) ∧ r.onlyLabel label ∧
    i.render.map RenderRecord.job = some .image ∧ i.image.isSome = true ∧
    -- Tables 3-5 and 3-6: row 0 read in band 0; in band 1 row 0 kept, row 1 read; row 2 short
    (band 0 7).neededRows (o body) b = [] ++ [] ++ 0 :: [] ∧ ¬5 < 0 * 2 + (10 + 7) / 8 ∧
    (band 8 15).neededRows (o body) b = [0] ++ [] ++ 1 :: [2] ∧ 0 + 1 = 1 ∧ 1 ≤ 1 ∧
    ¬5 < 1 * 2 + (10 + 7) / 8 ∧
    (band 12 14).neededRows (o body) b = [] ++ [2] ∧ 5 < 2 * 2 + (10 + 7) / 8 ∧
    -- Table 3-9: the glyph of code 5 has rows in band 0 and none below its line box
    (band 0 7).glyphRows { o body with y := 10 } 6 2 [g] ≠ [] ∧
    (band 16 23).glyphRows { o body with y := 10 } 6 2 [g] = [] := by
  unfold State.onlyLabel
  decide +kernel
theorem witness_CoveredSets :
    let b : BitmapFields := ⟨8, 2, 1, 2, 2, 0#32, 2⟩
    let env : PaintEnv := ⟨RenderState.initial, 64, 24, 0, 7⟩
    1 ≤ b.scaleX ∧ 1 ≤ b.scaleY ∧ 7 < b.width ∧ 1 < b.scaleX ∧ 1 < b.scaleY ∧
    env.first ≤ env.last ∧
    [2#8, 1#8, 3#8][2]? = some 3#8 ∧
    (10 : Int) + (((([2#8, 1#8, 3#8].take 2).map BitVec.toNat).sum * 2 : Nat) : Int) ≤ 16 ∧
    (21 : Int) < 10 + (((([2#8, 1#8, 3#8].take 2).map BitVec.toNat).sum * 2 : Nat) : Int) +
      (3 * 2 : Nat) := by decide
theorem witness_StrokePoints :
    let t : StrokeLine := ⟨0, 0, 4, 2⟩
    let u : StrokeLine := ⟨0, 0, 2, 4⟩
    4 ≤ t.major ∧ 0 < t.major ∧ t.dy ≤ t.dx ∧ u.dx < u.dy ∧ 0 < t.minorStep 4 := by decide +kernel
theorem witness_BandRenderEnds :
    let i := imageRendering .retire false .none none
    let s := rendering .retire false .none
    s.resetHeld = false ∧ s.engine.params = some session ∧ s.engine.state = .running ∧
    s.render.map (fun r => (r.step, r.cutPending, r.job, r.side)) =
      some (.retire, false, .label label.ringIndex, .print) ∧ s.onlyLabel label ∧
    bandCount label.length session.bandHeight ≤ label.nextBand + 1 ∧ ¬7 < label.cursor ∧
    i.resetHeld = false ∧ i.engine.params = some session ∧ i.engine.state = .running ∧
    i.render.map (fun r => (r.step, r.cutPending, r.job, r.side)) =
      some (.retire, false, .image, .image) ∧
    i.image.map ImageJob.nextBand = some 0 ∧ ¬bandCount job.height session.bandHeight ≤ 0 + 1 := by
  unfold State.onlyLabel
  decide +kernel
theorem witness_BandRenderCuts :
    let s := rendering .admission true .none
    let i := imageRendering .paint true .none (some .aborted)
    s.resetHeld = false ∧ s.engine.state = .running ∧
    s.render.map (fun r => (r.cutPending, r.read, r.job)) = some (true, .none, .label label.ringIndex) ∧
    s.onlyLabel label ∧
    (rendering .admission false .none).render.map RenderRecord.cutPending = some false ∧
    i.resetHeld = false ∧ i.engine.state = .running ∧
    i.render.map (fun r => (r.cutPending, r.read, r.job)) = some (true, .none, .image) ∧
    i.image.map (fun j => j.report.status) = some (some .aborted) := by
  unfold State.onlyLabel
  decide +kernel
theorem witness_RowWriteEnds :
    let b := writing.bands.get 0
    writing.resetHeld = false ∧ writing.engine.params = some session ∧
    writing.engine.state = .running ∧
    writing.image.map (fun j => (j.phase, j.write, j.buffer, j.report.status)) =
      some (.writing, some ⟨7, 0x900E#32, [0, 0]⟩, some 0, none) ∧
    writing.rendersJob .image = false ∧ 6 + 1 < b.first + b.count ∧ b.first + b.count ≤ 7 + 1 ∧
    writing.image.map ImageJob.nextBand = some 1 ∧ 1 < bandCount job.height session.bandHeight ∧
    bandCount job.height session.bandHeight ≤ 2 ∧ 10 ≤ 2048 ∧ 1 < (10 + 7) / 8 := by decide +kernel
theorem witness_RowWriteEnds_ended :
    let ended : State := { writing with
      image := writing.image.map fun j => { j with
        report := { j.report with status := some .aborted } } }
    ended.resetHeld = false ∧ ended.engine.params = some session ∧
    ended.engine.state = .running ∧ ended.rendersJob .image = false ∧
    ended.image.map (fun j => (j.phase, j.write, j.buffer, j.report.status)) =
      some (.writing, some ⟨7, 0x900E#32, [0, 0]⟩, some 0, some .aborted) := by decide +kernel
theorem witness_StepsAndMarks :
    let a : LabelEntry := { label with printStatus := .aligning }
    (printing a).resetHeld = false ∧ (printing a).engine.state = .running ∧
    (printing a).engine.params = some session ∧ headCurrent (printing a).labels = some a ∧
    (printing a).onlyLabel a ∧ a.printStatus = .aligning ∧ a.steps + 1 < a.markLimit ∧
    a.markLimit ≤ ({ a with steps := 1 } : LabelEntry).steps + 1 ∧
    ({ label with cursor := 12 } : LabelEntry).length ≤ ({ label with cursor := 12 } : LabelEntry).cursor ∧
    headCurrent running.labels = none ∧ State.reset.engine.state ≠ .running := by
  unfold State.onlyLabel
  decide +kernel
theorem witness_DueRows :
    let s := printing label
    let queued : State :=
      { s with bands := { s.bands with b0 := band0 .ready }, printQueue := [0] }
    let early : State := { s with head := { HeadPort.initial with delivery := some delivery } }
    let last : LabelEntry := { label with cursor := 8 }
    s.resetHeld = false ∧ s.engine.params = some session ∧ s.engine.state = .running ∧
    headCurrent s.labels = some label ∧ s.onlyLabel label ∧ label.printStatus = .printing ∧
    label.cursor < label.length ∧ s.head.delivery = none ∧ s.bands.printingBuffer = some 0 ∧
    (s.bands.get 0).owner = some (.label label.ringIndex) ∧ (s.bands.get 0).first ≤ label.cursor ∧
    label.cursor < (s.bands.get 0).first + (s.bands.get 0).count ∧
    queued.bands.printingBuffer = none ∧ queued.printQueue = [0] ∧
    ¬last.cursor < (s.bands.get 0).first + (s.bands.get 0).count ∧ label.pad = true ∧
    early.head.delivery = some delivery ∧ delivery.kind = .row 0 ∧
    (∀ k, (early.bands.get k).state = .printing → k = 0) ∧ session.headWidth ≤ 2048 := by
  unfold State.onlyLabel
  decide +kernel
theorem witness_DeliveryEnds :
    let d : Delivery := { delivery with boost := rowOf 8 fun _ => true }
    let s : State := { printing label with
      head := { HeadPort.initial with delivery := some d, pendingPad := some ⟨0#16, 1⟩ } }
    let done : LabelEntry := { label with cursor := 12, rowsSent := 11, rowsPadded := 1 }
    s.resetHeld = false ∧ s.engine.params = some session ∧ s.engine.state = .running ∧
    s.head.delivery = some d ∧ d.label = label.ringIndex ∧ s.onlyLabel label ∧
    d.phase = .mainBurn ∧ session.burnBoost ≠ 0 ∧ d.boost ≠ 0#dotsPerRow ∧
    delivery.boost = 0#dotsPerRow ∧ ({ d with phase := .boostBurn } : Delivery).phase = .boostBurn ∧
    s.head.pendingPad = some ⟨label.ringIndex, 1⟩ ∧ label.printStatus = .printing ∧
    label.rowsSent + label.rowsPadded ≠ label.length ∧
    done.rowsSent + done.rowsPadded = done.length ∧ 8 ≤ 256 ∧ 7 < 8 := by
  unfold State.onlyLabel
  decide +kernel
theorem witness_LabelEnds :
    (printing label).onlyLabel label ∧ label.printStatus ≠ .ended ∧
    (printing { label with printStatus := .ended }).onlyLabel { label with printStatus := .ended } := by
  unfold State.onlyLabel
  decide +kernel
theorem witness_LabelStartsAndLeaves :
    let w : LabelEntry := { label with printStatus := .waiting }
    let e : LabelEntry := { label with
      printStatus := .ended, renderStatus := .cut, report := { label.report with status := some .aborted } }
    (printing w).resetHeld = false ∧ (printing w).engine.state = .running ∧ (printing w).onlyLabel w ∧
    headCurrent (printing w).labels = some w ∧ w.printStatus = .waiting ∧
    (printing w).head.delivery = none ∧ (printing w).head.pendingPad = none ∧
    headCurrent (printing label).labels = some label ∧ label.printStatus ≠ .waiting ∧
    (printing e).onlyLabel e ∧ (printing e).labels = [] ++ e :: [] ∧ e.printStatus = .ended ∧
    e.renderStatus = .cut ∧ e.report.status = some .aborted := by
  unfold State.onlyLabel
  decide +kernel
theorem witness_CompletionWrites :
    let s := postingRecord 2#16 0#16 none
    let ready : State := { s with completion := { s.completion with write := none } }
    let both : State := { ready with completion := { ready.completion with
      retire := ⟨ready.completion.retire.print, ready.completion.retire.print⟩ } }
    let after_ (c r : Half) : Nat := (c + 1#16 - r).toNat
    s.resetHeld = false ∧ s.engine.params = some session ∧ s.engine.state = .running ∧
    ready.completion.write = none ∧ (ready.readyRecord .print).isSome = true ∧
    ready.readyRecord .image = none ∧ (both.readyRecord .image).isSome = true ∧
    running.readyRecord .print = none ∧ running.readyRecord .image = none ∧
    s.completion.write.isSome = true ∧ session.coalesceCount ≤ after_ 2#16 0#16 ∧
    after_ 1#16 0#16 < session.coalesceCount ∧ session.coalesceTime ≠ 0 ∧ s.completion.timer = none ∧
    s.cause.getLsbD 0 = false ∧ (postingRecord 1#16 0#16 (some 9)).completion.timer ≠ none := by
  decide +kernel

/-! The invariants' hypotheses, met by states whose front command completes. -/

/-- A state with a command waiting. -/
def waiting (s : State) (c : Instr) : State := { s with pending := [c] }

/-- One label taken and PRINTING, the consumer index past it. -/
def taken : State := { printing label with rings := ⟨⟨1#16, 1#16, .active, .none⟩, .initial⟩ }

theorem witness_StepKeepsWindow :
    WindowSound (waiting State.reset .start) ∧ ∃ t, step (waiting State.reset .start) = .next t := by
  unfold WindowSound
  exact ⟨by decide +kernel, _, rfl⟩
theorem witness_StepKeepsSlots :
    SlotAccounting (waiting taken .abortPrint) ∧ ∃ t, step (waiting taken .abortPrint) = .next t := by
  unfold SlotAccounting
  refine ⟨⟨by decide +kernel, by decide +kernel, by decide +kernel, ?_, ?_, by decide +kernel,
    by decide +kernel⟩, _, rfl⟩
  · intro w h
    cases h
  · intro p h
    cases h
    decide +kernel
theorem witness_StepKeepsRings :
    let s := printRing 4#16 (.flushing 4#16) .none
    RingsSound (waiting s .abortPrint) ∧ ∃ t, step (waiting s .abortPrint) = .next t := by
  refine ⟨⟨?_, by decide +kernel, by decide +kernel, by decide +kernel⟩, _, rfl⟩
  intro p h
  cases h
  exact ⟨⟨by decide +kernel, by decide +kernel, by decide +kernel⟩,
    show RingRecord.posted _ ≤ 4 by decide +kernel⟩
theorem witness_StepKeepsLabels :
    SlotAccounting (waiting taken .abortPrint) ∧ LabelsSound (waiting taken .abortPrint) ∧
    ∃ t, step (waiting taken .abortPrint) = .next t := by
  refine ⟨witness_StepKeepsSlots.1, ⟨by unfold TakeOrder; decide +kernel,
    by unfold TakeOrder; decide +kernel, by decide +kernel, by decide +kernel, ?_, ?_, ?_⟩, _, rfl⟩
  · intro l h
    obtain rfl := List.mem_singleton.1 h
    exact ⟨by unfold LabelEntry.rowsSound; decide +kernel, _, List.mem_singleton.2 rfl, rfl, rfl⟩
  · intro ld h
    cases h
  · intro w h
    cases h
theorem witness_StepKeepsRenderStates :
    RenderStatesInRange (waiting State.reset .start) ∧
    ∃ t, step (waiting State.reset .start) = .next t := by
  unfold RenderStatesInRange RenderState.inRange
  exact ⟨by decide +kernel, _, rfl⟩
theorem witness_StepKeepsTables :
    let e : TableEntry := ⟨0, ⟨some .set, false, 2, 7, .rule 3 4⟩, .set, 7, 10, .rule⟩
    let s : State := { taken with
      tables := ⟨[e], []⟩
      walkers := ⟨⟨some (.label 0#16), 0x40#32, 2, 1, none⟩, WalkerContext.empty⟩ }
    TablesSound (waiting s .abortPrint) ∧ ∃ t, step (waiting s .abortPrint) = .next t := by
  refine ⟨⟨⟨by decide +kernel, by decide +kernel, by decide +kernel, ?_⟩,
    by decide +kernel, List.Pairwise.nil, ?_, ?_⟩, _, rfl⟩ <;> intro e h <;> cases h
theorem witness_StepKeepsBands :
    let s := rendering .admission false .none
    BandsSound (waiting s .abortPrint) ∧ ∃ t, step (waiting s .abortPrint) = .next t := by
  refine ⟨⟨?_, by decide +kernel, by decide +kernel, ?_, ?_, ?_⟩, _, rfl⟩
  · intro i
    refine ⟨?_, ?_, by revert i; decide +kernel, ?_⟩
    · match i with
      | 0 => exact fun h => by cases h
      | 1 | 2 | 3 => exact rfl
    · revert i
      decide +kernel
    · constructor
      · intro h
        revert h
        revert i
        decide +kernel
      · intro ⟨j, h, _⟩
        cases h
  · intro r h
    cases h
    exact ⟨rfl, fun h => by cases h⟩
  · intro ld h
    cases h
  · intro ld h
    cases h

end Sys2Proof.Tests
end

/-! SUPPORT. Which positions each object kind covers and with which mark: what each kind's marks come
to at a position, and from that the two statements on covered sets (O41, O42). -/

namespace Sys2Proof.Machine

/-! ### Fill marks and packed dots (R4, R10, R11) -/

/-- A filled dot is ink unless PATTERN is set and the pattern's bit is 0 (R10, R11). -/
theorem RenderState.fillMark_eq_decide (rs : RenderState) (pattern : Bool) (x y : Int) :
    rs.fillMark pattern x y =
      decide (pattern = false ∨ rs.pattern.getLsbD (8 * (y % 8).toNat + (x % 8).toNat) = true) := by
  cases pattern <;> simp [RenderState.fillMark, RenderState.patternAt]

/-- Dot `i` of packed bytes is bit `7 - i mod 8` of byte `i / 8`, 0 beyond the bytes (R4). -/
theorem packedDot_eq_getMsbD (bytes : List Byte) (i : Nat) :
    packedDot bytes i = (bytes.getD (i / 8) 0#8).getMsbD (i % 8) := rfl

/-! ### BITMAP (R47, R49) -/

section Bitmap

variable (env : PaintEnv) (o : ObjectFields) (b : BitmapFields)

/-- Dot `c` of a source row covers a block of scaleX by scaleY positions (R47). -/
theorem PaintEnv.bitmapMarks_block (row : Nat) (bytes : List Byte) {c i j : Nat}
    (hc : c < b.width) (hi : i < b.scaleX) (hj : j < b.scaleY) :
    env.bitmapMarks o b row bytes (env.originColumn o + (b.scaleX * c + i : Nat))
      (env.originRow o + (b.scaleY * row + j : Nat)) = some (packedDot bytes c) := by
  have hdot : (b.scaleX * c + i) / b.scaleX = c := by
    rw [Nat.mul_add_div (by omega), Nat.div_eq_of_lt hi, Nat.add_zero]
  have hlast : b.scaleX * c + i < b.scaleX * b.width :=
    calc b.scaleX * c + i < b.scaleX * (c + 1) := by rw [Nat.mul_succ]; omega
      _ ≤ b.scaleX * b.width := Nat.mul_le_mul_left _ hc
  have hrow : ((b.scaleY : Int) * row) = ((b.scaleY * row : Nat) : Int) := (Nat.cast_mul _ _).symm
  have hwidth : ((b.scaleX : Int) * b.width) = ((b.scaleX * b.width : Nat) : Int) :=
    (Nat.cast_mul _ _).symm
  have hoff : (env.originColumn o + ((b.scaleX * c + i : Nat) : Int) - env.originColumn o).toNat =
      b.scaleX * c + i := by omega
  simp only [PaintEnv.bitmapMarks, hoff, hdot]
  exact if_pos (by omega)

/-- A source row covers nothing outside its columns and its scaleY grid rows (R47). -/
theorem PaintEnv.bitmapMarks_outside (row : Nat) (bytes : List Byte) {x y : Int}
    (h : x < env.originColumn o ∨ env.originColumn o + (b.scaleX * b.width : Nat) ≤ x ∨
      y < env.originRow o + (b.scaleY * row : Nat) ∨
      env.originRow o + (b.scaleY * (row + 1) : Nat) ≤ y) :
    env.bitmapMarks o b row bytes x y = none := by
  push_cast [Nat.mul_succ] at h
  exact if_neg (by omega)

/-- The needed rows are consecutive (R49). -/
theorem PaintEnv.neededRows_pairwise : (env.neededRows o b).Pairwise (· < ·) :=
  List.pairwise_lt_range'

/-- A source row is needed when its scaled rows reach from the band's first row or below to its last or
above (R49). -/
theorem PaintEnv.mem_neededRows_iff_bounds (hscale : 1 ≤ b.scaleY) (row : Nat) :
    row ∈ env.neededRows o b ↔ row < b.height ∧
      (env.first : Int) - env.originRow o < (row + 1) * b.scaleY ∧
      row * b.scaleY ≤ (env.last : Int) - env.originRow o := by
  have hpos : (0 : Int) < b.scaleY := by omega
  have hlow := Int.ediv_lt_iff_lt_mul (a := (env.first : Int) - env.originRow o)
    (b := (row : Int) + 1) hpos
  have hhigh := Int.le_ediv_iff_mul_le (a := (row : Int))
    (b := (env.last : Int) - env.originRow o) hpos
  simp only [PaintEnv.neededRows, List.mem_range'_1, ← hlow, ← hhigh]
  omega

/-- A source row is needed when one of its grid rows lies in the band (R49). -/
theorem PaintEnv.mem_neededRows_iff (hband : env.first ≤ env.last) (hscale : 1 ≤ b.scaleY)
    (row : Nat) :
    row ∈ env.neededRows o b ↔ row < b.height ∧ ∃ j < b.scaleY,
      (env.first : Int) ≤ env.originRow o + (b.scaleY * row + j : Nat) ∧
        env.originRow o + (b.scaleY * row + j : Nat) ≤ env.last := by
  have htop : (row : Int) * b.scaleY = ((b.scaleY * row : Nat) : Int) := by push_cast; ring
  have hnext : ((row : Int) + 1) * b.scaleY = ((b.scaleY * row : Nat) : Int) + b.scaleY := by
    push_cast; ring
  rw [env.mem_neededRows_iff_bounds o b hscale, htop, hnext]
  refine and_congr_right fun _ => ⟨fun ⟨hfirst, hlast⟩ => ?_, fun ⟨j, hj, hfirst, hlast⟩ => by omega⟩
  -- the first of the row's grid rows that is not above the band
  exact ⟨((env.first : Int) - env.originRow o - (b.scaleY * row : Nat)).toNat, by omega⟩

end Bitmap

/-! ### TEXT (R53 to R55) -/

section Text

variable (env : PaintEnv) (o : ObjectFields) (ascent descent : Nat)

/-- A glyph row of a band is a row of some placed item of width above 0 that lies in the band and in the
line box (R53 to R55). -/
theorem PaintEnv.mem_glyphRows_iff (placed : List GlyphItem) (g : GlyphRow) :
    g ∈ env.glyphRows o ascent descent placed ↔ ∃ i ∈ placed, ∃ row < i.height, 0 < i.width ∧
      g = ⟨i.pen, i.width, env.originRow o - i.ascent + row,
        env.rs.glyphBase + i.offset + BitVec.ofNat 32 (row * ((i.width + 7) / 8))⟩ ∧
      env.first ≤ g.gridRow ∧ g.gridRow ≤ env.last ∧
      env.originRow o - ascent ≤ g.gridRow ∧ g.gridRow ≤ env.originRow o + descent - 1 := by
  simp only [PaintEnv.glyphRows, ceilBytes, List.mem_flatMap, List.mem_filterMap, List.mem_range,
    Option.ite_none_right_eq_some, Option.some.injEq]
  refine exists_congr fun i => and_congr_right fun _ => exists_congr fun row =>
    and_congr_right fun _ => ⟨?_, ?_⟩
  · rintro ⟨⟨hwidth, hin⟩, rfl⟩
    exact ⟨hwidth, rfl, hin⟩
  · rintro ⟨hwidth, rfl, hin⟩
    exact ⟨⟨hwidth, hin⟩, rfl⟩

/-- The glyph rows are taken item by item (R54). -/
theorem PaintEnv.glyphRows_append (before rest : List GlyphItem) :
    env.glyphRows o ascent descent (before ++ rest) =
      env.glyphRows o ascent descent before ++ env.glyphRows o ascent descent rest :=
  List.flatMap_append

/-- One item's glyph rows are taken downwards (R54). -/
theorem PaintEnv.glyphRows_singleton_pairwise (i : GlyphItem) :
    (env.glyphRows o ascent descent [i]).Pairwise fun g g' => g.gridRow < g'.gridRow := by
  simp only [PaintEnv.glyphRows, List.flatMap_cons, List.flatMap_nil, List.append_nil]
  refine List.pairwise_lt_range.filterMap _ fun row row' hlt g hg g' hg' => ?_
  simp only [Option.ite_none_right_eq_some, Option.some.injEq] at hg hg'
  obtain ⟨-, rfl⟩ := hg
  obtain ⟨-, rfl⟩ := hg'
  simpa using hlt

end Text

section TextMarks

variable (gathered : List (GlyphRow × List Byte)) (x y : Int)

theorem GlyphRow.covers_iff (g : GlyphRow) :
    g.covers x y = true ↔ g.gridRow = y ∧ g.pen ≤ x ∧ x < g.pen + g.width :=
  decide_eq_true_iff

/-- A TEXT leaves a position alone when no gathered glyph row covers it (R54). -/
theorem textMarks_eq_none_iff :
    textMarks gathered x y = none ↔ ¬∃ g ∈ gathered, g.1.covers x y = true := by
  simp only [textMarks, ite_eq_right_iff, reduceCtorEq, imp_false, List.any_eq_true]

/-- A TEXT marks a position ink when a gathered glyph row that covers it has ink there (R54). -/
theorem textMarks_eq_ink_iff :
    textMarks gathered x y = some true ↔
      ∃ g ∈ gathered, g.1.covers x y = true ∧ packedDot g.2 (x - g.1.pen).toNat = true := by
  simp only [textMarks, Option.ite_none_right_eq_some, Option.some.injEq, List.any_eq_true,
    Bool.and_eq_true]
  exact and_iff_right_of_imp fun ⟨g, hg, hcover, _⟩ => ⟨g, hg, hcover⟩

end TextMarks

/-! ### BARS (R58) -/

/-- Whether a laid-out run covers a column (R58). -/
def Bar.covers (b : Bar) (x : Int) : Bool := decide (b.start ≤ x ∧ x < b.start + b.width)

theorem Bar.covers_iff (b : Bar) (x : Int) :
    b.covers x = true ↔ b.start ≤ x ∧ x < b.start + b.width := decide_eq_true_iff

/-- Within its rows a BARS has the mark of the first run that covers the column (R58). -/
theorem PaintEnv.barsMarks_eq (env : PaintEnv) (o : ObjectFields) (height : Nat) (bars : List Bar)
    (x y : Int) :
    env.barsMarks o height bars x y =
      if env.originRow o ≤ y ∧ y < env.originRow o + height then
        (bars.find? (·.covers x)).map Bar.ink
      else none := rfl

/-- The columns of a list of runs. -/
def runColumns (moduleWidth : Nat) (runs : List Byte) : Nat :=
  (runs.map BitVec.toNat).sum * moduleWidth

@[simp] theorem runColumns_nil (m : Nat) : runColumns m [] = 0 := by simp [runColumns]
@[simp] theorem runColumns_cons (m : Nat) (run : Byte) (runs : List Byte) :
    runColumns m (run :: runs) = run.toNat * m + runColumns m runs := by
  simp [runColumns, Nat.add_mul]

/-- A laid-out run lies within the columns of the whole (R58). -/
theorem within_of_mem_layoutBars (m : Nat) (runs : List Byte) (start : Int) (ink : Bool) {bar : Bar}
    (hbar : bar ∈ layoutBars m start ink runs) :
    start ≤ bar.start ∧ bar.start + bar.width ≤ start + runColumns m runs := by
  induction runs generalizing start ink with
  | nil => simp [layoutBars] at hbar
  | cons run rest ih =>
    rw [layoutBars, List.mem_cons] at hbar
    rw [runColumns_cons]
    obtain rfl | hrest := hbar
    · exact ⟨le_refl _, by dsimp only; omega⟩
    · obtain ⟨hstart, hend⟩ := ih _ _ hrest
      omega

/-- No run covers a column before the first or after the last (R58). -/
theorem find?_layoutBars_outside (m : Nat) (runs : List Byte) (start : Int) (ink : Bool) {x : Int}
    (h : x < start ∨ start + runColumns m runs ≤ x) :
    (layoutBars m start ink runs).find? (·.covers x) = none := by
  refine List.find?_eq_none.2 fun bar hbar hcover => ?_
  have hwithin := within_of_mem_layoutBars m runs start ink hbar
  rw [Bar.covers_iff] at hcover
  omega

/-- Run `k` begins where run `k - 1` ended, and the runs' inks alternate (R58). -/
theorem find?_layoutBars_run (m : Nat) (runs : List Byte) (start : Int) (ink : Bool) {k : Nat}
    {run : Byte} {x : Int} (hrun : runs[k]? = some run)
    (hfrom : start + runColumns m (runs.take k) ≤ x)
    (hto : x < start + runColumns m (runs.take k) + (run.toNat * m : Nat)) :
    ((layoutBars m start ink runs).find? (·.covers x)).map Bar.ink =
      some (if k % 2 = 0 then ink else !ink) := by
  induction runs generalizing start ink k with
  | nil => simp at hrun
  | cons first rest ih =>
    cases k with
    | zero =>
      obtain rfl : first = run := by simpa using hrun
      have hcover : Bar.covers ⟨start, first.toNat * m, ink⟩ x = true := by
        simpa [Bar.covers_iff] using And.intro hfrom hto
      simp [layoutBars, hcover]
    | succ k =>
      rw [List.take_succ_cons, runColumns_cons] at hfrom hto
      have hpast : Bar.covers ⟨start, first.toNat * m, ink⟩ x = false :=
        decide_eq_false (by dsimp only; omega)
      have hparity : (if k % 2 = 0 then !ink else !!ink) = if (k + 1) % 2 = 0 then ink else !ink := by
        obtain h | h := Nat.mod_two_eq_zero_or_one k <;> simp [h, Nat.add_mod]
      rw [layoutBars, List.find?_cons, hpast]
      exact hparity ▸ ih _ _ (by simpa using hrun) (by omega) (by omega)

/-! ### The covered sets settled -/

/-- Settles O41, kind by kind. -/
theorem coveredSets : Obligations.CoveredSets := by
  intro env o x y X Y fill
  refine ⟨?rule, ?bitmap, ?needed, env.mem_glyphRows_iff o, ?glyphOrder, ?text, ?bars, ?noBars⟩
  case rule =>
    intro w h
    simp only [PaintEnv.ruleMarks, RenderState.fillMark_eq_decide]
    rfl
  case bitmap =>
    intro b row bytes _ _
    exact ⟨fun c i j hc hi hj => env.bitmapMarks_block o b row bytes hc hi hj,
      env.bitmapMarks_outside o b row bytes⟩
  case needed =>
    intro b hband hscale
    exact ⟨env.neededRows_pairwise o b, env.mem_neededRows_iff o b hband hscale⟩
  case glyphOrder =>
    intro ascent descent before rest i
    exact ⟨env.glyphRows_append o ascent descent before rest,
      env.glyphRows_singleton_pairwise o ascent descent i⟩
  case text =>
    intro gathered under ink
    simp only [textMarks_eq_none_iff, textMarks_eq_ink_iff, GlyphRow.covers_iff,
      packedDot_eq_getMsbD, under, ink, and_assoc, and_self]
  case bars =>
    intro m h runs k run hrun start hfrom hto hY hh
    rw [env.barsMarks_eq, if_pos ⟨hY, hh⟩, find?_layoutBars_run m runs X true hrun hfrom hto]
    obtain hk | hk := Nat.mod_two_eq_zero_or_one k <;> simp [hk]
  case noBars =>
    intro m h runs hout
    rw [env.barsMarks_eq]
    split
    next hrows =>
      have hcolumns : x < X ∨ X + runColumns m runs ≤ x := by
        obtain hx | hx | hy | hy := hout
        · exact .inl hx
        · exact .inr hx
        · exact absurd hrows.1 (not_le.2 hy)
        · exact absurd hrows.2 (not_lt.2 hy)
      rw [find?_layoutBars_outside m runs X true hcolumns, Option.map_none]
    next => rfl

/-! ### STROKE (R42 to R44) -/

namespace StrokeLine

variable (t : StrokeLine)

/-- The stroke starts with no minor offset (R43). -/
theorem minorStep_zero : t.minorStep 0 = 0 := by
  simp only [minorStep, Nat.mul_zero, Nat.zero_mul, Nat.zero_add, Nat.div_eq_zero_iff]
  omega

/-- The last point's minor offset is the minor length (R43). -/
theorem minorStep_major : t.minorStep t.major = t.minor := by
  have hle : t.minor ≤ t.major := min_le_max
  obtain hzero | hpos := Nat.eq_zero_or_pos t.major
  · rw [hzero, minorStep_zero]
    omega
  · have hsum : 2 * t.major * t.minor + t.major - 1 = 2 * t.major * t.minor + (t.major - 1) := by
      omega
    rw [minorStep, hsum, Nat.mul_add_div (by omega), Nat.div_eq_of_lt (by omega), Nat.add_zero]

/-- The minor offset times the major length is within half a major length of k·m, above it only by less
than the half: the integer nearest k·m/M, halves toward the start (R43). -/
theorem minorStep_nearest (k : Nat) (hpos : 0 < t.major) :
    2 * k * t.minor ≤ (2 * t.minorStep k + 1) * t.major ∧
      (0 < t.minorStep k → (2 * t.minorStep k - 1) * t.major < 2 * k * t.minor) := by
  set n := t.minorStep k
  have hupper : 2 * k * t.minor + t.major - 1 < (n + 1) * (2 * t.major) :=
    Nat.lt_mul_of_div_lt (Nat.lt_succ_self n) (by omega)
  have hlower : n * (2 * t.major) ≤ 2 * k * t.minor + t.major - 1 := Nat.div_mul_le_self _ _
  have hdouble : (n + 1) * (2 * t.major) = n * (2 * t.major) + 2 * t.major := Nat.succ_mul _ _
  have hodd : (2 * n + 1) * t.major = n * (2 * t.major) + t.major := by ring
  have hbelow : (2 * n - 1) * t.major = n * (2 * t.major) - t.major := by
    rw [Nat.sub_mul]
    congr 1 <;> ring
  refine ⟨by omega, fun hn => ?_⟩
  have hstep : 2 * t.major ≤ n * (2 * t.major) := Nat.le_mul_of_pos_left _ hn
  omega

/-- A step's points along the major and the minor axis, x the major axis (R43). -/
theorem point_of_dy_le_dx (k : Nat) (h : t.dy ≤ t.dx) :
    t.point k = (t.x0 + k * (t.x1 - t.x0).sign, t.y0 + t.minorStep k * (t.y1 - t.y0).sign) :=
  if_pos h

/-- A step's points along the minor and the major axis, y the major axis (R43). -/
theorem point_of_dx_lt_dy (k : Nat) (h : t.dx < t.dy) :
    t.point k = (t.x0 + t.minorStep k * (t.x1 - t.x0).sign, t.y0 + k * (t.y1 - t.y0).sign) :=
  if_neg (not_le.2 h)

theorem point_zero : t.point 0 = (t.x0, t.y0) := by
  simp [point, minorStep_zero]

/-- The stepped points end at the second end (R43). -/
theorem point_major : t.point t.major = (t.x1, t.y1) := by
  have hx : t.x0 + t.dx * (t.x1 - t.x0).sign = t.x1 := by
    rw [mul_comm, dx, Int.sign_mul_natAbs, add_sub_cancel]
  have hy : t.y0 + t.dy * (t.y1 - t.y0).sign = t.y1 := by
    rw [mul_comm, dy, Int.sign_mul_natAbs, add_sub_cancel]
  obtain h | h := le_or_gt t.dy t.dx
  · rw [point_of_dy_le_dx t _ h, minorStep_major, major, minor, max_eq_left h, min_eq_right h, hx, hy]
  · rw [point_of_dx_lt_dy t _ h, minorStep_major, major, minor, max_eq_right h.le, min_eq_left h.le,
      hx, hy]

/-- A stroke covers the squares of its stepped points, each point the square's least corner (R44). -/
theorem covers_iff (w : Nat) (x y : Int) :
    t.covers w x y = true ↔ ∃ k ≤ t.major, ∃ i < w, ∃ j < w,
      x = (t.point k).1 + (i : Nat) ∧ y = (t.point k).2 + (j : Nat) := by
  simp only [covers, List.any_eq_true, List.mem_range, Nat.lt_succ_iff, decide_eq_true_eq]
  refine exists_congr fun k => and_congr_right fun _ => ⟨fun ⟨hx, hxw, hy, hyw⟩ => ?_, ?_⟩
  · exact ⟨(x - (t.point k).1).toNat, by omega, (y - (t.point k).2).toNat, by omega, by omega,
      by omega⟩
  · rintro ⟨i, hi, j, hj, rfl, rfl⟩
    omega

end StrokeLine

/-- Settles O42: the stepped points from the rounding of the minor offset, the marks from their squares. -/
theorem strokePoints : Obligations.StrokePoints := by
  refine ⟨fun t => ⟨t.point_zero, t.point_major, fun k _ hpos => ?_, t.covers_iff⟩, ?_⟩
  · obtain ⟨hupper, hlower⟩ := t.minorStep_nearest k hpos
    exact ⟨rfl, hupper, hlower, t.point_of_dy_le_dx k, t.point_of_dx_lt_dy k⟩
  · intro env o x1 y1 w x y t fill
    refine ⟨rfl, rfl, ?_⟩
    simp only [PaintEnv.strokeMarks, RenderState.fillMark_eq_decide]
    rfl

end Sys2Proof.Machine

/-! SUPPORT. The end of a descriptor fetch (R148, R149): when its data are discarded, what releasing it
and faulting its ring change, and from that the statement on its bus error (O23). -/

namespace Sys2Proof.Machine

theorem RingState.faulted_eq_false_iff (x : RingState) :
    x.faulted = false ↔ x ≠ .faultedOverrun ∧ x ≠ .faultedFetch := by
  cases x <;> simp [RingState.faulted]

/-- The data of a fetch are kept when nothing of R148 discards them. -/
theorem State.fetchDiscarded_eq_false_iff (s : State) (r : Ring) (marked : Bool) :
    s.fetchDiscarded r marked = false ↔
      marked = false ∧ s.engine.state = .running ∧ (s.rings.get r).state ≠ .faultedOverrun ∧
        (s.rings.get r).state ≠ .faultedFetch := by
  simp [State.fetchDiscarded, RingState.faulted_eq_false_iff, and_assoc]

/-- A dropped fetch leaves its ring with no take, and its reservation is released (R148). -/
theorem State.dropFetch_eq (s : State) (r : Ring) :
    s.dropFetch r =
      { s with
        rings := s.rings.set r { s.rings.get r with take := .none }
        completion := { s.completion with reserved := s.completion.reserved - 1 } } := rfl

/-- A faulted ring changes its state alone, and RING_FAULT is set (R142, R149). -/
theorem State.faultRing_eq (s : State) (r : Ring) (x : RingState) :
    s.faultRing r x =
      { s with
        rings := s.rings.set r { s.rings.get r with state := x }
        cause := s.cause ||| Cause.ringFault.mask } := rfl

/-- A bus error whose data are not discarded drops the fetch and faults the ring (R149). -/
theorem State.endFetch_busError {s : State} {r : Ring} {marked : Bool}
    (hkept : s.fetchDiscarded r marked = false) :
    s.endFetch r marked .busError = (s.dropFetch r).faultRing r .faultedFetch := by
  obtain ⟨hdiscarded, -⟩ | ⟨-, -, hend⟩ | ⟨-, d, hdata, -⟩ := s.endFetch_cases r marked .busError
  · exact absurd hdiscarded (by simp [hkept])
  · exact hend
  · cases hdata

/-- Outside RESET_N and HALTED a fetch in flight ends by `endFetch`. -/
theorem exec_descriptorFetchEnd_of_fetch {s : State} {r : Ring} {a : Word} {marked : Bool}
    (result : BusRead (BitVec 256)) (hlive : s.resetHeld = false) (hhalted : s.engine.state ≠ .halted)
    (htake : (s.rings.get r).take = .fetch a marked) :
    exec (.descriptorFetchEnd r result) s = .next (s.endFetch r marked result).settle := by
  change execDescriptorFetchEnd r result s = _
  rw [execDescriptorFetchEnd, State.act_live _ hlive]
  simp only [htake, if_neg hhalted]

/-- Settles O23: the fetch is not discarded, so its error drops it and faults its ring. -/
theorem descriptorFetchError : Obligations.DescriptorFetchError := by
  intro r a s hlive hrunning htake hoverrun hfetch
  have hkept : s.fetchDiscarded r false = false :=
    (s.fetchDiscarded_eq_false_iff r false).2 ⟨rfl, hrunning, hoverrun, hfetch⟩
  rw [exec_descriptorFetchEnd_of_fetch .busError hlive (by simp [hrunning]) htake,
    State.endFetch_busError hkept, State.faultRing_eq, State.dropFetch_eq, PerRing.get_set_self,
    PerRing.set_set]
  rfl

end Sys2Proof.Machine

/-! SUPPORT. The output pins after every command (R117, R182), the interrupt enables, and from those the
statement on IEN and IRQ (O10). -/

namespace Sys2Proof.Machine

/-! ### The pins after a command -/

/-- The wrapper leaves every pin at its level, whatever state `u` the effect answers. -/
theorem State.pins_of_act_next {s t u : State} (hact : s.act (fun _ => u) = .next t)
    (hlive : s.resetHeld = false) : t.pins = t.pinLevels := by
  obtain ⟨hheld, -⟩ | ⟨-, rfl⟩ := State.act_next hact
  · simp [hlive] at hheld
  · rfl

/-- Outside RESET_N every command leaves every pin at its level: all but the two of the pin RESET_N run in
the wrapper, and the release of the pin settles as well. -/
theorem exec_pins {c : Instr} {s t : State} (hexec : exec c s = .next t)
    (hlive : s.resetHeld = false) (hreleased : t.resetHeld = false) : t.pins = t.pinLevels := by
  cases c with
  | resetN => cases hexec; cases hreleased
  | resetNDeasserted => cases hexec; rfl
  | cmdUndefinedCode value =>
    change execCmdUndefinedCode value s = _ at hexec
    unfold execCmdUndefinedCode at hexec
    split at hexec
    · cases hexec
    · exact State.pins_of_act_next hexec hlive
  | registerWriteIgnored offset width value =>
    change execRegisterWriteIgnored offset width value s = _ at hexec
    unfold execRegisterWriteIgnored at hexec
    split at hexec
    · exact State.pins_of_act_next hexec hlive
    · cases hexec
  | _ => exact State.pins_of_act_next hexec hlive

/-! ### IRQ and IEN (R182) -/

/-- IRQ's condition bit by bit: some cause bit and its enable bit are both set. -/
theorem State.irqCondition_iff (s : State) :
    s.irqCondition = true ↔ ∃ k < 6, s.cause.getLsbD k = true ∧ s.ien.getLsbD k = true := by
  have hzero : s.cause &&& s.ien = 0#6 ↔ ∀ k < 6, (s.cause &&& s.ien).getLsbD k = false := by
    simp [BitVec.eq_of_getLsbD_eq_iff]
  simp [State.irqCondition, hzero]

/-- With no cause bit set IRQ's condition fails. -/
theorem State.irqCondition_of_cause_zero {s : State} (hcause : s.cause = 0#6) :
    s.irqCondition = false := by
  simp [State.irqCondition, hcause]

/-- A read of IEN outside RESET_N (Table 11-12). -/
theorem State.readRegister_ien {s : State} (hlive : s.resetHeld = false) :
    s.readRegister 0x24 = s.ien.setWidth 32 := by
  simp [State.readRegister, hlive]

theorem exec_ienWrite {s : State} (v : Word) (hlive : s.resetHeld = false) :
    exec (.ienWrite v) s = .next ({ s with ien := v.setWidth 6 } : State).settle := by
  change execIenWrite v s = _
  rw [execIenWrite, State.act_live _ hlive, lowSix_eq]

/-! ### The resets and START on CAUSE and IEN (R187, R196, R197) -/

/-- Counting the discarded transactions leaves IEN as it is. -/
@[simp] theorem State.countDiscarded_ien (s : State) : s.countDiscarded.ien = s.ien := by
  unfold State.countDiscarded
  split <;> rfl

@[simp] theorem State.engineReset_ien (s : State) : s.engineReset.ien = s.ien :=
  s.countDiscarded_ien

@[simp] theorem State.engineReset_cause (s : State) : s.engineReset.cause = 0#6 := rfl

theorem exec_engineReset {s : State} (hlive : s.resetHeld = false) :
    exec .engineReset s = .next s.engineReset.settle :=
  State.act_live _ hlive

theorem exec_start_of_stopped {s : State} (hlive : s.resetHeld = false)
    (hstopped : s.engine.state = .stopped) : exec .start s = .next s.openSession.settle := by
  change execStart s = _
  rw [execStart, State.act_live _ hlive, if_pos hstopped]

/-- Settles O10: IRQ from its level after every command, the rest from each command's effect. -/
theorem enablesAndIrq : Obligations.EnablesAndIrq := by
  refine ⟨fun v s hlive => ⟨exec_ienWrite v hlive, State.readRegister_ien hlive⟩,
    fun c s t hexec hlive hreleased => ?_, fun s => ⟨s.deviceReset, rfl, rfl, rfl, rfl⟩,
    fun s hlive => ?_, fun s hlive hstopped => ?_⟩
  · rw [exec_pins hexec hlive hreleased]
    exact t.irqCondition_iff
  · exact ⟨_, exec_engineReset hlive, s.engineReset_ien, s.engineReset_cause,
      State.irqCondition_of_cause_zero s.engineReset_cause⟩
  · exact ⟨_, exec_start_of_stopped hlive hstopped, rfl, rfl⟩

end Sys2Proof.Machine

/-! SUPPORT. A write of CREAD (R178, R180): its three outcomes, the slots it frees, and from those the
statement on consumer writes (O20). -/

namespace Sys2Proof.Machine

/-! ### Free-running indices (00_scope.md, Indices) -/

theorem indexBetween_iff (a b c : Half) :
    indexBetween a b c = true ↔ (a - b).toNat ≤ (c - b).toNat := by
  simp [indexBetween]

/-- From an index between `b` and `c` the way on to `c` is the whole way less the way already gone. -/
theorem toNat_sub_of_between {a b c : Half} (h : (a - b).toNat ≤ (c - b).toNat) :
    (c - a).toNat = (c - b).toNat - (a - b).toNat := by
  have hsplit : c - a = (c - b) - (a - b) := by ring
  rw [hsplit, BitVec.toNat_sub_of_le (BitVec.le_def.2 h)]

/-! ### The three outcomes -/

theorem State.writeCread_self (s : State) : s.writeCread s.completion.cread = s :=
  if_pos rfl

/-- A new index up to CPOST is stored, and stops the timer when it reaches CPOST (R178, R180). -/
theorem State.writeCread_of_between {s : State} {n : Half} (hnew : n ≠ s.completion.cread)
    (hbetween : (n - s.completion.cread).toNat ≤ (s.completion.cpost - s.completion.cread).toNat) :
    s.writeCread n = { s with
      completion := { s.completion with
        cread := n, timer := if n = s.completion.cpost then none else s.completion.timer } } := by
  rw [State.writeCread, if_neg hnew, if_pos ((indexBetween_iff ..).2 hbetween)]
  rfl

/-- An index beyond CPOST is refused (R178); the old index is never beyond it. -/
theorem State.writeCread_of_beyond {s : State} {n : Half}
    (hbeyond : (s.completion.cpost - s.completion.cread).toNat < (n - s.completion.cread).toNat) :
    s.writeCread n = { s with cause := s.cause ||| 0b100000#6 } := by
  have hnew : n ≠ s.completion.cread := by
    rintro rfl
    simp at hbeyond
  have hnotBetween : ¬ indexBetween n s.completion.cread s.completion.cpost = true :=
    fun h => absurd ((indexBetween_iff ..).1 h) hbeyond.not_ge
  rw [State.writeCread, if_neg hnew, if_neg hnotBetween]
  rfl

theorem exec_creadWrite {s : State} (v : Word) (hlive : s.resetHeld = false) :
    exec (.creadWrite v) s = .next (s.writeCread (v.setWidth 16)).settle := by
  change execCreadWrite v s = _
  rw [execCreadWrite, State.act_live _ hlive, lowHalf_eq]

/-- Settles O20: one outcome of the check for each of the three places the new index can have. -/
theorem consumerWrites : Obligations.ConsumerWrites := by
  intro v s hlive n c
  rw [exec_creadWrite v hlive]
  refine ⟨fun hold => ?_, fun hnew hbetween => ⟨?_, toNat_sub_of_between hbetween⟩,
    fun hbeyond => ?_⟩
  · rw [show v.setWidth 16 = s.completion.cread from hold, s.writeCread_self]
  · rw [State.writeCread_of_between hnew hbetween]
  · rw [State.writeCread_of_beyond hbeyond]

end Sys2Proof.Machine

/-! SUPPORT. The setup block's checks (R189) and the setup outcome's effect on STAT's code, the setup
address through START and the resets, and from those the statements on the setup fault code (O16) and on
SETUP (O9). -/

namespace Sys2Proof.Machine

/-! ### The checks of a setup block (Table 10-6) -/

theorem SetupParams.widthValid_eq_false_iff (p : SetupParams) :
    p.widthValid = false ↔ p.headWidth < 64 ∨ 2048 < p.headWidth ∨ p.headWidth % 8 ≠ 0 := by
  rw [SetupParams.widthValid, decide_eq_false_iff_not]
  omega

theorem SetupParams.heightValid_eq_false_iff (p : SetupParams) :
    p.heightValid = false ↔
      p.bandHeight ≠ 8 ∧ p.bandHeight ≠ 16 ∧ p.bandHeight ≠ 32 ∧ p.bandHeight ≠ 64 := by
  simp [SetupParams.heightValid]

/-- The seven ring sizes are the powers of two from 2² to 2⁸. -/
theorem ringSizeValid_iff (n : Nat) :
    ringSizeValid n = true ↔ ∃ k, 2 ≤ k ∧ k ≤ 8 ∧ n = 2 ^ k := by
  rw [ringSizeValid, decide_eq_true_eq]
  constructor
  · intro hmem
    have hpowers : [4, 8, 16, 32, 64, 128, 256] = (List.range' 2 7).map (2 ^ ·) := by decide
    rw [hpowers, List.mem_map] at hmem
    obtain ⟨k, hk, rfl⟩ := hmem
    rw [List.mem_range'_1] at hk
    exact ⟨k, hk.1, by omega, rfl⟩
  · rintro ⟨k, hlow, hhigh, rfl⟩
    interval_cases k <;> decide

theorem SetupParams.sizesValid_eq_false_iff (p : SetupParams) :
    p.sizesValid = false ↔ (¬∃ k, 2 ≤ k ∧ k ≤ 8 ∧ p.ringSize.print = 2 ^ k) ∨
      (¬∃ k, 2 ≤ k ∧ k ≤ 8 ∧ p.ringSize.image = 2 ^ k) ∨
      ¬∃ k, 2 ≤ k ∧ k ≤ 8 ∧ p.completionSize = 2 ^ k := by
  simp only [← ringSizeValid_iff, SetupParams.sizesValid, Bool.and_eq_false_iff, Bool.not_eq_true,
    or_assoc]

theorem SetupParams.basesValid_eq_false_iff (p : SetupParams) :
    p.basesValid = false ↔ p.ringBase.print.toNat % 64 ≠ 0 ∨ p.ringBase.image.toNat % 64 ≠ 0 ∨
      p.completionBase.toNat % 64 ≠ 0 := by
  simp only [SetupParams.basesValid, aligned, Bool.and_eq_false_iff, decide_eq_false_iff_not,
    or_assoc, ne_eq]

theorem SetupParams.countValid_eq_false_iff (p : SetupParams) :
    p.countValid = false ↔ p.coalesceCount = 0 ∨ 16 < p.coalesceCount := by
  rw [SetupParams.countValid, decide_eq_false_iff_not]
  omega

/-- Each code is reported exactly when its check fails and no check before it does (R189). -/
theorem SetupParams.faultCode_iff (p : SetupParams) :
    let f2 := p.widthValid = false
    let f3 := p.heightValid = false
    let f4 := p.sizesValid = false
    let f5 := p.basesValid = false
    let f6 := p.burnMain = 0
    let f7 := p.countValid = false
    (p.faultCode = 2 ↔ f2) ∧ (p.faultCode = 3 ↔ ¬f2 ∧ f3) ∧ (p.faultCode = 4 ↔ ¬f2 ∧ ¬f3 ∧ f4) ∧
      (p.faultCode = 5 ↔ ¬f2 ∧ ¬f3 ∧ ¬f4 ∧ f5) ∧ (p.faultCode = 6 ↔ ¬f2 ∧ ¬f3 ∧ ¬f4 ∧ ¬f5 ∧ f6) ∧
      (p.faultCode = 7 ↔ ¬f2 ∧ ¬f3 ∧ ¬f4 ∧ ¬f5 ∧ ¬f6 ∧ f7) ∧
      (p.faultCode = 0 ↔ ¬f2 ∧ ¬f3 ∧ ¬f4 ∧ ¬f5 ∧ ¬f6 ∧ ¬f7) := by
  unfold SetupParams.faultCode
  cases p.widthValid
  case false => simp
  cases p.heightValid
  case false => simp
  cases p.sizesValid
  case false => simp
  cases p.basesValid
  case false => simp
  by_cases hburn : p.burnMain = 0
  case pos => simp [hburn]
  cases p.countValid <;> simp [hburn]

/-! ### STAT's code after the setup outcome (R189, R190) -/

@[simp] theorem State.discardTake_engine (s : State) (r : Ring) :
    (s.discardTake r).engine = s.engine := by
  obtain ⟨-, h⟩ | ⟨_, _, -, h⟩ | ⟨_, -, h⟩ := s.discardTake_cases r <;> rw [h] <;> rfl

/-- The overrun check is about a ring: it leaves engine control as it is. -/
@[simp] theorem State.checkOverrun_engine (s : State) (p : SetupParams) (r : Ring) :
    (s.checkOverrun p r).engine = s.engine := by
  obtain h | ⟨-, -, h⟩ := s.checkOverrun_cases p r
  · rw [h]
  · rw [h, State.discardTake_engine]
    rfl

/-- Whether the session opens or not, the code in STAT is the fetch's: 0 when it opens. -/
theorem State.setupOutcome_faultCode (s : State) (result : BusRead (BitVec 512)) :
    (s.setupOutcome result).engine.faultCode = setupFaultCode result := by
  cases result with
  | busError => rfl
  | data d =>
    unfold State.setupOutcome
    dsimp only
    split
    next hopens =>
      rw [State.checkOverrun_engine, State.checkOverrun_engine]
      exact hopens.2.symm
    next => rfl

theorem exec_setupFetchEnd {s : State} (result : BusRead (BitVec 512)) (hlive : s.resetHeld = false)
    (hstarting : s.engine.state = .starting) (hfetch : s.engine.setupFetch = .inFlight) :
    exec (.setupFetchEnd result) s = .next (s.setupOutcome result).settle := by
  change execSetupFetchEnd result s = _
  rw [execSetupFetchEnd, State.act_live _ hlive, if_pos ⟨hstarting, hfetch⟩]

/-- Settles O16: the order of the checks, each check read off its bytes of the block. -/
theorem setupFaultCodes : Obligations.SetupFaultCodes := by
  refine ⟨fun result s hlive hstarting hfetch =>
    ⟨_, exec_setupFetchEnd result hlive hstarting hfetch, s.setupOutcome_faultCode result⟩,
    rfl, fun d => ?_⟩
  have hcodes := (readSetupBlock d).faultCode_iff
  simp only [SetupParams.widthValid_eq_false_iff, SetupParams.heightValid_eq_false_iff,
    SetupParams.sizesValid_eq_false_iff, SetupParams.basesValid_eq_false_iff,
    SetupParams.countValid_eq_false_iff] at hcodes
  exact hcodes

/-! ### SETUP (R200) -/

theorem exec_setupWrite {s : State} (v : Word) (hlive : s.resetHeld = false) :
    exec (.setupWrite v) s = .next ({ s with setup := v &&& 0xFFFFFFC0#32 } : State).settle := by
  change execSetupWrite v s = _
  rw [execSetupWrite, State.act_live _ hlive, show ~~~0x3F#32 = 0xFFFFFFC0#32 from rfl]

/-- A word with its low six bits cleared is a multiple of 64: what remains of it in six bits is 0. -/
theorem toNat_and_mask_mod (v : Word) : (v &&& 0xFFFFFFC0#32).toNat % 64 = 0 := by
  have hlow : (v &&& 0xFFFFFFC0#32).setWidth 6 = 0#6 := by
    rw [BitVec.setWidth_and, show (0xFFFFFFC0#32).setWidth 6 = 0#6 from rfl, BitVec.and_zero]
  exact (BitVec.toNat_setWidth ..).symm.trans (congrArg BitVec.toNat hlow)

/-- A read of SETUP outside RESET_N (Table 11-12). -/
theorem State.readRegister_setup {s : State} (hlive : s.resetHeld = false) :
    s.readRegister 0x08 = s.setup := by
  simp [State.readRegister, hlive]

/-- Counting the discarded transactions leaves SETUP as it is. -/
@[simp] theorem State.countDiscarded_setup (s : State) : s.countDiscarded.setup = s.setup := by
  unfold State.countDiscarded
  split <;> rfl

@[simp] theorem State.engineReset_setup (s : State) : s.engineReset.setup = s.setup :=
  s.countDiscarded_setup

/-- Settles O9: the write and its read-back, then SETUP through START and through both resets. -/
theorem setupRegister : Obligations.SetupRegister :=
  ⟨fun v _ hlive =>
      ⟨exec_setupWrite v hlive, toNat_and_mask_mod v, State.readRegister_setup hlive⟩,
    fun _ hlive hstopped => ⟨_, exec_start_of_stopped hlive hstopped, rfl, rfl⟩,
    fun s hlive => ⟨_, exec_engineReset hlive, s.engineReset_setup⟩,
    fun s => ⟨s.deviceReset, rfl, rfl⟩⟩

end Sys2Proof.Machine

/-! SUPPORT. What a step can do, said once: one constructor for each effect a command can have, with the
guards under which it has it, and from that the rule by which the invariants of Safety.lean are shown to be
kept by every step. -/

namespace Sys2Proof.Machine

/-! ### The effects of the commands -/

/-- The effects of the commands that work on jobs alone, before the pins are settled, each under the guards
of its command. -/
inductive JobEffect (s : State) : State → Prop
  | rowStep (p : SetupParams) (l : LabelEntry) (hp : s.engine.params = some p)
      (hl : headCurrent s.labels = some l) (hworking : s.working = true) : JobEffect s (s.rowStep p l)
  | mark (l : LabelEntry) (hl : headCurrent s.labels = some l) (hworking : s.working = true)
      (haligning : l.printStatus = .aligning) :
      JobEffect s (s.updateLabel l.ringIndex fun l => { l with printStatus := .printing })
  | burnMainEnd (p : SetupParams) (d : Delivery) (hp : s.engine.params = some p)
      (hd : s.head.delivery = some d) (hworking : s.working = true)
      (hphase : d.phase = .mainShift ∨ d.phase = .mainBurn) : JobEffect s (s.endBurnMain p d)
  | burnBoostEnd (p : SetupParams) (d : Delivery) (hp : s.engine.params = some p)
      (hd : s.head.delivery = some d) (hworking : s.working = true)
      (hphase : d.phase = .boostShift ∨ d.phase = .boostBurn) : JobEffect s (s.endDelivery p d)
  | grant (p : SetupParams) (hp : s.engine.params = some p) (hworking : s.working = true)
      (hidle : s.render = none) : JobEffect s (s.arbitrate p)
  | recordFetchEnd (p : SetupParams) (r : RenderRecord) (a : Word) (result : BusRead (BitVec 256))
      (hp : s.engine.params = some p) (hrender : s.render = some r) (hread : r.read = .record a)
      (hworking : s.working = true) : JobEffect s (s.endRecordFetch p r result)
  | objectReadEnd (p : SetupParams) (r : RenderRecord) (a : Word) (n : Nat) (work : PaintWork)
      (result : BusRead (List Byte)) (hp : s.engine.params = some p) (hrender : s.render = some r)
      (hread : r.read = .object a n work) (hworking : s.working = true)
      (hanswers : answersRead n result = true) : JobEffect s (s.endObjectRead p r work result)
  | renderEnd (p : SetupParams) (r : RenderRecord) (hp : s.engine.params = some p)
      (hrender : s.render = some r) (hworking : s.working = true) (hstep : r.step = .retire)
      (hcut : r.cutPending = false) : JobEffect s (s.endRender p r)
  | renderCut (r : RenderRecord) (hrender : s.render = some r) (hworking : s.working = true)
      (hcut : r.cutPending = true) (hread : r.read = .none) : JobEffect s (s.cutRender r)
  | rowWriteEnd (p : SetupParams) (j : ImageJob) (w : RowWrite) (i : BufferId) (result : BusWrite)
      (hp : s.engine.params = some p) (hj : s.image = some j) (hw : j.write = some w)
      (hi : j.buffer = some i) (hworking : s.working = true) (hphase : j.phase = .writing) :
      JobEffect s (s.endRowWrite p j i w result)
  | leaveWaiting (l : LabelEntry) (hl : headCurrent s.labels = some l) (hworking : s.working = true)
      (hwaiting : l.printStatus = .waiting) (hdelivery : s.head.delivery = none)
      (hpad : s.head.pendingPad = none) : JobEffect s (s.startHead l)
  | labelLeaves (l : LabelEntry) (hl : s.labels.find? LabelEntry.atRest = some l)
      (hworking : s.working = true) : JobEffect s (s.removeLabel l)

/-- The effects that a command can have on a state outside RESET_N, before the pins are settled, each under
the guards of its command. -/
inductive Effect (s : State) : State → Prop
  | idle : Effect s s
  | job {u : State} (heffect : JobEffect s u) : Effect s u
  | refused : Effect s (s.setCause .refused)
  | start (hstopped : s.engine.state = .stopped) : Effect s s.openSession
  | stopPending (hstarting : s.engine.state = .starting) :
      Effect s (s.setEngine { s.engine with pendingStop := true })
  | stop (hrunning : s.engine.state = .running) : Effect s s.beginDrain
  | abortPrint (hworking : s.working = true) :
      Effect s ((s.abortLabels.abortStateLoad .print).beginFlush .print)
  | abortImage (hworking : s.working = true) :
      Effect s ((s.abortImageJob.abortStateLoad .image).beginFlush .image)
  | ringReset (r : Ring) (hrunning : s.engine.state = .running)
      (hempty : s.completion.retire.get r = []) : Effect s (s.resetRing r)
  | engineReset : Effect s s.engineReset
  | setupWrite (v : Word) : Effect s { s with setup := v &&& ~~~0x3F#32 }
  | producerStored (r : Ring) (v : Half) (hstarting : s.engine.state = .starting) :
      Effect s (s.storeProducer r v)
  | producerChecked (r : Ring) (v : Half)
      (hworking : s.engine.state = .running ∨ s.engine.state = .draining) :
      Effect s (s.producerChecked r v)
  | creadWrite (v : Half) : Effect s (s.writeCread v)
  | causeWrite (bits : BitVec 6) : Effect s (s.writeCause bits)
  | ienWrite (v : BitVec 6) : Effect s { s with ien := v }
  | timerExpiry : Effect s s.expireTimer
  | microsecond : Effect s s.countDown
  | setupFetchStart : Effect s s.beginSetupFetch
  | setupOutcome (result : BusRead (BitVec 512)) (hstarting : s.engine.state = .starting)
      (hfetch : s.engine.setupFetch = .inFlight) : Effect s (s.setupOutcome result)
  | fetch (p : SetupParams) (r : Ring) (hp : s.engine.params = some p)
      (hgranted : s.slotGranted p r = true) : Effect s (s.beginFetch p r)
  | contestedFetch (p : SetupParams) (r : Ring) (hp : s.engine.params = some p)
      (hgranted : s.slotGranted p r = true) (hcontested : s.slotContested p = true) :
      Effect s (s.passReservationTurn.beginFetch p r)
  | fetchEnd (r : Ring) (a : Word) (marked : Bool) (result : BusRead (BitVec 256))
      (htake : (s.rings.get r).take = .fetch a marked) (hhalted : s.engine.state ≠ .halted) :
      Effect s (s.endFetch r marked result)
  | heldLabel (d : BitVec 256) (htake : s.rings.print.take = .held d)
      (hrunning : s.engine.state = .running) (hroom : s.labels.length < 4)
      (hactive : s.rings.print.state = .active) (hposted : 0 < s.rings.print.posted) :
      Effect s (s.takeLabel d (readLabelFields d))
  | loadEnd (r : Ring) (ld : StateLoad) (result : BusRead (BitVec 384))
      (hload : s.loads.get r = some ld) (hworking : s.working = true) :
      Effect s (s.endLoad r ld result)
  | writeStart (p : SetupParams) (hp : s.engine.params = some p) (hworking : s.working = true)
      (hfree : s.completion.write = none) : Effect s (s.choosePort p)
  | posted (p : SetupParams) (w : CompletionWrite) (hp : s.engine.params = some p)
      (hw : s.completion.write = some w) (hworking : s.working = true) : Effect s (s.post p w)
  | recordLost (p : SetupParams) (w : CompletionWrite) (hp : s.engine.params = some p)
      (hw : s.completion.write = some w) (hworking : s.working = true) :
      Effect s (s.endWrite.enterHalted w.ring)
  | transactionEnd :
      Effect s (s.setEngine { s.engine with discarded := s.engine.discarded - 1 })
  | drained (hdraining : s.engine.state = .draining) (hdrained : s.drained = true) :
      Effect s s.toStopped

/-- Outside RESET_N a command in the wrapper answers its effect, settled. -/
theorem Effect.of_act {s t u : State} (hact : s.act (fun _ => u) = .next t)
    (hlive : s.resetHeld = false) (heffect : Effect s u) : ∃ u, Effect s u ∧ t = u.settle := by
  obtain ⟨hheld, -⟩ | ⟨-, rfl⟩ := State.act_next hact
  · simp [hlive] at hheld
  · exact ⟨u, heffect, rfl⟩

/-- Outside RESET_N every command but the two of the pin has one of the effects. -/
theorem exec_effect {c : Instr} {s t : State} (hexec : exec c s = .next t)
    (hlive : s.resetHeld = false) (hpin : c ≠ .resetN) (hpin' : c ≠ .resetNDeasserted) :
    ∃ u, Effect s u ∧ t = u.settle := by
  cases c with
  | resetN => exact absurd rfl hpin
  | resetNDeasserted => exact absurd rfl hpin'
  | cmdUndefinedCode value =>
    change execCmdUndefinedCode value s = _ at hexec
    unfold execCmdUndefinedCode at hexec
    split at hexec
    · cases hexec
    · exact Effect.of_act hexec hlive .refused
  | registerWriteIgnored offset width value =>
    change execRegisterWriteIgnored offset width value s = _ at hexec
    unfold execRegisterWriteIgnored at hexec
    split at hexec
    · exact Effect.of_act hexec hlive .idle
    · cases hexec
  | start =>
    refine Effect.of_act hexec hlive ?_
    split
    next hstopped => exact .start hstopped
    next => exact .refused
  | stop =>
    refine Effect.of_act hexec hlive ?_
    split
    next hstarting => exact .stopPending hstarting
    next hrunning => exact .stop hrunning
    all_goals exact .refused
  | abortPrint =>
    refine Effect.of_act hexec hlive ?_
    split
    next hworking => exact .abortPrint hworking
    next => exact .refused
  | abortImage =>
    refine Effect.of_act hexec hlive ?_
    split
    next hworking => exact .abortImage hworking
    next => exact .refused
  | resetPrintRing =>
    refine Effect.of_act hexec hlive ?_
    unfold State.tryResetRing
    split
    next h => exact .ringReset .print h.1 h.2
    next => exact .refused
  | resetImageRing =>
    refine Effect.of_act hexec hlive ?_
    unfold State.tryResetRing
    split
    next h => exact .ringReset .image h.1 h.2
    next => exact .refused
  | engineReset => exact Effect.of_act hexec hlive .engineReset
  | setupWrite value => exact Effect.of_act hexec hlive (.setupWrite value)
  | producerWrite r value =>
    refine Effect.of_act hexec hlive ?_
    split
    next hstarting => exact .producerStored r _ hstarting
    next hrunning => exact .producerChecked r _ (.inl hrunning)
    next hdraining => exact .producerChecked r _ (.inr hdraining)
    all_goals exact .refused
  | creadWrite value => exact Effect.of_act hexec hlive (.creadWrite _)
  | causeWrite value => exact Effect.of_act hexec hlive (.causeWrite _)
  | ienWrite value => exact Effect.of_act hexec hlive (.ienWrite _)
  | rowStep =>
    refine Effect.of_act hexec hlive ?_
    split
    next p l hp hl =>
      split
      next hworking => exact .job (.rowStep p l hp hl hworking)
      next => exact .idle
    next => exact .idle
  | mark =>
    refine Effect.of_act hexec hlive ?_
    split
    next l hl =>
      split
      next h => exact .job (.mark l hl h.1 h.2)
      next => exact .idle
    next => exact .idle
  | coalescingTimerExpiry => exact Effect.of_act hexec hlive .timerExpiry
  | burnMainEnd =>
    refine Effect.of_act hexec hlive ?_
    split
    next p d hp hd =>
      split
      next h => exact .job (.burnMainEnd p d hp hd h.1 h.2)
      next => exact .idle
    next => exact .idle
  | burnBoostEnd =>
    refine Effect.of_act hexec hlive ?_
    split
    next p d hp hd =>
      split
      next h => exact .job (.burnBoostEnd p d hp hd h.1 h.2)
      next => exact .idle
    next => exact .idle
  | setupFetchStart => exact Effect.of_act hexec hlive .setupFetchStart
  | setupFetchEnd result =>
    refine Effect.of_act hexec hlive ?_
    split
    next h => exact .setupOutcome result h.1 h.2
    next => exact .idle
  | descriptorFetchStart r =>
    refine Effect.of_act hexec hlive ?_
    split
    next => exact .idle
    next p hp =>
      split
      next hgranted =>
        split
        next hcontested => exact .contestedFetch p r hp hgranted hcontested
        next => exact .fetch p r hp hgranted
      next => exact .idle
  | descriptorFetchEnd r result =>
    refine Effect.of_act hexec hlive ?_
    split
    next a marked htake =>
      split
      next => exact .idle
      next hhalted => exact .fetchEnd r a marked result htake hhalted
    all_goals exact .idle
  | heldLabelTake =>
    refine Effect.of_act hexec hlive ?_
    split
    next d htake =>
      split
      next h =>
        obtain ⟨hrunning, hroom, hactive, hposted⟩ := h
        exact .heldLabel d htake hrunning hroom hactive hposted
      next => exact .idle
    all_goals exact .idle
  | stateRecordLoadEnd r result =>
    refine Effect.of_act hexec hlive ?_
    split
    next ld hload =>
      split
      next hworking => exact .loadEnd r ld result hload hworking
      next => exact .idle
    next => exact .idle
  | rasterizerGrant =>
    refine Effect.of_act hexec hlive ?_
    split
    next => exact .idle
    next p hp =>
      split
      next h => exact .job (.grant p hp h.1 h.2)
      next => exact .idle
  | recordFetchEnd result =>
    refine Effect.of_act hexec hlive ?_
    split
    next p r hp hrender =>
      split
      next a hread =>
        split
        next hworking => exact .job (.recordFetchEnd p r a result hp hrender hread hworking)
        next => exact .idle
      all_goals exact .idle
    next => exact .idle
  | objectDataReadEnd result =>
    refine Effect.of_act hexec hlive ?_
    split
    next p r hp hrender =>
      split
      next a n work hread =>
        split
        next h => exact .job (.objectReadEnd p r a n work result hp hrender hread h.1 h.2)
        next => exact .idle
      all_goals exact .idle
    next => exact .idle
  | bandRenderEnd =>
    refine Effect.of_act hexec hlive ?_
    split
    next p r hp hrender =>
      split
      next h =>
        obtain ⟨hworking, hstep, hcut⟩ := h
        exact .job (.renderEnd p r hp hrender hworking hstep hcut)
      next => exact .idle
    next => exact .idle
  | bandRenderCut =>
    refine Effect.of_act hexec hlive ?_
    split
    next r hrender =>
      split
      next h =>
        obtain ⟨hworking, hcut, hread⟩ := h
        exact .job (.renderCut r hrender hworking hcut hread)
      next => exact .idle
    next => exact .idle
  | rowWriteEnd result =>
    refine Effect.of_act hexec hlive ?_
    split
    next p j hp hj =>
      split
      next w i hw hi =>
        split
        next h => exact .job (.rowWriteEnd p j w i result hp hj hw hi h.1 h.2)
        next => exact .idle
      next => exact .idle
    next => exact .idle
  | leaveWaiting =>
    refine Effect.of_act hexec hlive ?_
    split
    next l hl =>
      split
      next h =>
        obtain ⟨hworking, hwaiting, hdelivery, hpad⟩ := h
        exact .job (.leaveWaiting l hl hworking hwaiting hdelivery hpad)
      next => exact .idle
    next => exact .idle
  | labelLeavesList =>
    refine Effect.of_act hexec hlive ?_
    split
    next l hl =>
      split
      next hworking => exact .job (.labelLeaves l hl hworking)
      next => exact .idle
    next => exact .idle
  | completionWriteStart =>
    refine Effect.of_act hexec hlive ?_
    split
    next => exact .idle
    next p hp =>
      split
      next h => exact .writeStart p hp h.1 h.2
      next => exact .idle
  | completionWriteEnd result =>
    refine Effect.of_act hexec hlive ?_
    split
    next p w hp hw =>
      split
      next hworking =>
        cases result with
        | acknowledged => exact .posted p w hp hw hworking
        | busError => exact .recordLost p w hp hw hworking
      next => exact .idle
    next => exact .idle
  | discardedTransactionEnd => exact Effect.of_act hexec hlive .transactionEnd
  | drainToStopped =>
    refine Effect.of_act hexec hlive ?_
    split
    next h => exact .drained h.1 h.2
    next => exact .idle

/-- Under RESET_N no command but the two of the pin changes anything (R196). -/
theorem exec_held {c : Instr} {s t : State} (hexec : exec c s = .next t) (hheld : s.resetHeld = true)
    (hpin : c ≠ .resetN) (hpin' : c ≠ .resetNDeasserted) : t = s := by
  have kept {u : State} (hact : s.act (fun _ => u) = .next t) : t = s := by
    rw [State.act_held _ hheld] at hact
    cases hact
    rfl
  cases c with
  | resetN => exact absurd rfl hpin
  | resetNDeasserted => exact absurd rfl hpin'
  | cmdUndefinedCode value =>
    change execCmdUndefinedCode value s = _ at hexec
    unfold execCmdUndefinedCode at hexec
    split at hexec
    · cases hexec
    · exact kept hexec
  | registerWriteIgnored offset width value =>
    change execRegisterWriteIgnored offset width value s = _ at hexec
    unfold execRegisterWriteIgnored at hexec
    split at hexec
    · exact kept hexec
    · cases hexec
  | _ => exact kept hexec

/-! ### What a step can do -/

/-- What a step can answer: under RESET_N the state with the queue's rest, else an effect settled; or the
state after the pin RESET_N is asserted or released. -/
theorem step_cases {s t : State} (hstep : step s = .next t) :
    ∃ rest, let v := s.setPending rest
      (s.resetHeld = true ∧ t = v) ∨ (s.resetHeld = false ∧ ∃ u, Effect v u ∧ t = u.settle) ∨
      t = v.deviceReset ∨ t = ({ v with resetHeld := false } : State).settle := by
  unfold step at hstep
  split at hstep
  next hqueue =>
    have same : s.setPending [] = s := by rw [← hqueue]; rfl
    refine ⟨[], ?_⟩
    rw [same]
    obtain h | ⟨hlive, ht⟩ := State.act_next hstep
    · exact .inl h
    · exact .inr (.inl ⟨hlive, _, .microsecond, ht⟩)
  next c rest hqueue =>
    refine ⟨rest, ?_⟩
    by_cases hpin : c = .resetN
    · subst hpin
      cases hstep
      exact .inr (.inr (.inl rfl))
    by_cases hpin' : c = .resetNDeasserted
    · subst hpin'
      cases hstep
      exact .inr (.inr (.inr rfl))
    cases hheld : s.resetHeld with
    | true => exact .inl ⟨rfl, exec_held hstep hheld hpin hpin'⟩
    | false => exact .inr (.inl ⟨rfl, exec_effect hstep hheld hpin hpin'⟩)

/-- A predicate that reads neither the pins, the queue nor the level of RESET_N is kept by every step when
it is kept by every effect and holds after the reset. -/
theorem step_keeps {P : State → Prop} (hpins : ∀ s p, P s → P (s.setPins p))
    (hqueue : ∀ s q, P s → P (s.setPending q))
    (hlevel : ∀ s : State, P s → P { s with resetHeld := false })
    (hreset : ∀ s : State, P s.deviceReset) (heffect : ∀ {s u}, P s → Effect s u → P u)
    {s t : State} (hs : P s) (hstep : step s = .next t) : P t := by
  obtain ⟨rest, ⟨-, rfl⟩ | ⟨-, u, hu, rfl⟩ | rfl | rfl⟩ := step_cases hstep
  · exact hqueue s rest hs
  · exact hpins _ _ (heffect (hqueue s rest hs) hu)
  · exact hreset _
  · exact hpins _ _ (hlevel _ (hqueue s rest hs))

end Sys2Proof.Machine

/-! SUPPORT. What the work on jobs leaves alone: the blocks outside the jobs, and for each operation of the
print path, the walker, the rasterizer and the writeback that they are kept, or that only an entry of the
IMAGE retire queue is finished. -/

namespace Sys2Proof.Machine

/-- The blocks that the work on labels, band renders and the image job only reads. -/
structure Control where
  resetHeld : Bool
  setup : Word
  cause : BitVec 6
  ien : BitVec 6
  engine : EngineControl
  rings : PerRing RingRecord
  completion : CompletionUnit
  renderStates : PerRing RenderState
  loads : PerRing (Option StateLoad)
  pins : Pins
  freeCount : Nat
  pending : List Instr

/-- The blocks of a state outside its jobs. -/
def State.control (s : State) : Control :=
  ⟨s.resetHeld, s.setup, s.cause, s.ien, s.engine, s.rings, s.completion, s.renderStates, s.loads,
    s.pins, s.freeCount, s.pending⟩

section Kept

variable {s t : State} (h : t.control = s.control)
include h

theorem State.resetHeld_of_control : t.resetHeld = s.resetHeld := congrArg Control.resetHeld h
theorem State.setup_of_control : t.setup = s.setup := congrArg Control.setup h
theorem State.cause_of_control : t.cause = s.cause := congrArg Control.cause h
theorem State.engine_of_control : t.engine = s.engine := congrArg Control.engine h
theorem State.rings_of_control : t.rings = s.rings := congrArg Control.rings h
theorem State.completion_of_control : t.completion = s.completion := congrArg Control.completion h
theorem State.renderStates_of_control : t.renderStates = s.renderStates :=
  congrArg Control.renderStates h
theorem State.loads_of_control : t.loads = s.loads := congrArg Control.loads h

end Kept

section JobUpdates

variable (s : State)

/-! ### The updates of the jobs' blocks -/

@[simp] theorem State.setWalker_control (r : Ring) (x : WalkerContext) :
    (s.setWalker r x).control = s.control := rfl
@[simp] theorem State.setTable_control (r : Ring) (x : List TableEntry) :
    (s.setTable r x).control = s.control := rfl
@[simp] theorem State.setBand_control (i : BufferId) (x : BandBuffer) :
    (s.setBand i x).control = s.control := rfl
@[simp] theorem State.setPrintQueue_control (q : List BufferId) :
    (s.setPrintQueue q).control = s.control := rfl
@[simp] theorem State.setRender_control (r : Option RenderRecord) :
    (s.setRender r).control = s.control := rfl
@[simp] theorem State.setLabels_control (l : List LabelEntry) :
    (s.setLabels l).control = s.control := rfl
@[simp] theorem State.setHead_control (h : HeadPort) : (s.setHead h).control = s.control := rfl
@[simp] theorem State.setImage_control (j : Option ImageJob) : (s.setImage j).control = s.control :=
  rfl
@[simp] theorem State.updateLabel_control (i : Half) (f : LabelEntry → LabelEntry) :
    (s.updateLabel i f).control = s.control := rfl
@[simp] theorem State.updateImage_control (f : ImageJob → ImageJob) :
    (s.updateImage f).control = s.control := rfl
@[simp] theorem State.updateReport_control (o : Owner) (f : JobReport → JobReport) :
    (s.updateReport o f).control = s.control := by cases o <;> rfl
@[simp] theorem State.setRenderStatus_control (i : Half) (x : RenderStatus) :
    (s.setRenderStatus i x).control = s.control := rfl
@[simp] theorem State.emptyWalker_control (r : Ring) : (s.emptyWalker r).control = s.control := rfl
@[simp] theorem State.setUpWalker_control (r : Ring) (o : Owner) (a : Word) (n : Nat) :
    (s.setUpWalker r o a n).control = s.control := by
  rw [State.setUpWalker, State.updateReport_control, State.setTable_control, State.setWalker_control]
@[simp] theorem State.freeBands_control (sel : BufferId → BandBuffer → Bool) :
    (s.freeBands sel).control = s.control := rfl
@[simp] theorem State.takeBack_control (o : Owner) : (s.takeBack o).control = s.control := rfl
@[simp] theorem State.freePassed_control (i : Half) (n : Nat) :
    (s.freePassed i n).control = s.control := rfl
@[simp] theorem State.freeBand_control (i : BufferId) : (s.freeBand i).control = s.control := rfl
@[simp] theorem State.setCutPending_control : s.setCutPending.control = s.control := rfl

/-! ### Ends of jobs -/

@[simp] theorem State.dropPendingPad_control (i : Half) :
    (s.dropPendingPad i).control = s.control := by
  obtain ⟨_, h⟩ := s.dropPendingPad_frame i
  rw [h]; rfl

@[simp] theorem State.stopLabelRender_control (l : LabelEntry) :
    (s.stopLabelRender l).control = s.control := by
  obtain ⟨_, _, _, _, h⟩ := s.stopLabelRender_frame l
  rw [h]; rfl

@[simp] theorem State.endLabel_control (i : Half) (st : Status) (fi : Half) :
    (s.endLabel i st fi).control = s.control := by
  obtain ⟨_, _, _, _, _, _, _, h⟩ := s.endLabel_frame i st fi
  rw [h]; rfl

@[simp] theorem State.endImage_control (st : Status) (fi : Half) :
    (s.endImage st fi).control = s.control := by
  obtain ⟨_, _, _, _, h⟩ := s.endImage_frame st fi
  rw [h]; rfl

@[simp] theorem State.endJob_control (o : Owner) (st : Status) (fi : Half) :
    (s.endJob o st fi).control = s.control := by
  cases o
  · exact s.endLabel_control _ _ _
  · exact s.endImage_control _ _

@[simp] theorem State.abortLabels_control : s.abortLabels.control = s.control := by
  have fold (ls : List LabelEntry) : ∀ t : State,
      (ls.foldl (fun t l => t.endLabel l.ringIndex .aborted noObject) t).control = t.control := by
    induction ls with
    | nil => exact fun _ => rfl
    | cons l ls ih => exact fun t => (ih _).trans (t.endLabel_control _ _ _)
  exact fold s.labels s

/-! ### The print path -/

@[simp] theorem State.deliverRow_control (p : SetupParams) (l : LabelEntry) (i : BufferId) :
    (s.deliverRow p l i).control = s.control := rfl
@[simp] theorem State.headTake_control (i : BufferId) : (s.headTake i).control = s.control := by
  simp [State.headTake]
@[simp] theorem State.padRow_control (l : LabelEntry) : (s.padRow l).control = s.control := by
  simp [State.padRow]
@[simp] theorem State.padEarly_control (l : LabelEntry) : (s.padEarly l).control = s.control := by
  simp [State.padEarly]
@[simp] theorem State.startHead_control (l : LabelEntry) : (s.startHead l).control = s.control := by
  simp [State.startHead]

@[simp] theorem State.dueRow_control (p : SetupParams) (l : LabelEntry) :
    (s.dueRow p l).control = s.control := by
  unfold State.dueRow
  split
  · simp
  · simp
  · split <;> simp

@[simp] theorem State.earlyStep_control (l : LabelEntry) : (s.earlyStep l).control = s.control := by
  unfold State.earlyStep
  split <;> simp

@[simp] theorem State.countStep_control (l : LabelEntry) : (s.countStep l).control = s.control := by
  unfold State.countStep
  dsimp only
  split <;> simp

@[simp] theorem State.rowStep_control (p : SetupParams) (l : LabelEntry) :
    (s.rowStep p l).control = s.control := by
  unfold State.rowStep
  split
  · rfl
  · rfl
  · simp
  · split
    · rfl
    · split <;> simp

@[simp] theorem State.freeDelivered_control (i : Half) : (s.freeDelivered i).control = s.control := by
  unfold State.freeDelivered
  split <;> simp

/-- With its delivery ended a label has its pending padded delivery begun, or ends OK when every row is
passed, or goes on as it is (R108, R121). -/
theorem State.afterDelivery_cases (i : Half) :
    (∃ q, s.head.pendingPad = some q ∧ q.label = i ∧ s.afterDelivery i =
      s.setHead { s.head with
        delivery := some (paddedDelivery i q.rows), pendingPad := none }) ∨
    ((∀ q, s.head.pendingPad = some q → q.label ≠ i) ∧
      ((∃ l, s.findLabel i = some l ∧ l.printStatus = PrintStatus.printing ∧
        l.rowsSent + l.rowsPadded = l.length ∧ s.afterDelivery i = s.endLabel i .ok noObject) ∨
      ((∀ l, s.findLabel i = some l →
        ¬(l.printStatus = PrintStatus.printing ∧ l.rowsSent + l.rowsPadded = l.length)) ∧
        s.afterDelivery i = s))) := by
  by_cases hpad : ∃ q, s.head.pendingPad = some q ∧ q.label = i
  · obtain ⟨q, hq, hi⟩ := hpad
    exact .inl ⟨q, hq, hi, by simp [State.afterDelivery, hq, hi]⟩
  · have other : ∀ q, s.head.pendingPad = some q → q.label ≠ i := fun q hq hi => hpad ⟨q, hq, hi⟩
    refine .inr ⟨other, ?_⟩
    unfold State.afterDelivery
    cases hl : s.findLabel i with
    | none =>
      refine .inr ⟨(by simp), ?_⟩
      cases hq : s.head.pendingPad with
      | none => rfl
      | some q => exact if_neg (other q hq)
    | some l =>
      by_cases hrows : l.printStatus = .printing ∧ l.rowsSent + l.rowsPadded = l.length
      · refine .inl ⟨l, rfl, hrows.1, hrows.2, ?_⟩
        cases hq : s.head.pendingPad with
        | none => exact if_pos hrows
        | some q => exact (if_neg (other q hq)).trans (if_pos hrows)
      · refine .inr ⟨(by rintro _ ⟨⟩; exact hrows), ?_⟩
        cases hq : s.head.pendingPad with
        | none => exact if_neg hrows
        | some q => exact (if_neg (other q hq)).trans (if_neg hrows)

@[simp] theorem State.afterDelivery_control (i : Half) :
    (s.afterDelivery i).control = s.control := by
  obtain ⟨q, -, -, h⟩ | ⟨-, ⟨l, -, -, -, h⟩ | ⟨-, h⟩⟩ := s.afterDelivery_cases i <;> rw [h]
  · rfl
  · exact s.endLabel_control _ _ _

@[simp] theorem State.endDelivery_control (p : SetupParams) (d : Delivery) :
    (s.endDelivery p d).control = s.control := by simp [State.endDelivery]

@[simp] theorem State.endBurnMain_control (p : SetupParams) (d : Delivery) :
    (s.endBurnMain p d).control = s.control := by
  unfold State.endBurnMain
  split <;> simp

/-! ### The walker and the rasterizer -/

@[simp] theorem State.faultRender_control (r : RenderRecord) (st : Status) (k : Nat) :
    (s.faultRender r st k).control = s.control := by simp [State.faultRender]
@[simp] theorem State.keepCanvas_control (r : RenderRecord) (c : Canvas) :
    (s.keepCanvas r c).control = s.control := by simp [State.keepCanvas]

@[simp] theorem State.applyPainting_control (r : RenderRecord) (t : TableResult) :
    (s.applyPainting r t).control = s.control := by cases t <;> simp [State.applyPainting]

@[simp] theorem State.startPaint_control (p : SetupParams) (r : RenderRecord) :
    (s.startPaint p r).control = s.control := s.applyPainting_control _ _

@[simp] theorem State.nextObject_control (p : SetupParams) (r : RenderRecord) :
    (s.nextObject p r).control = s.control := by
  unfold State.nextObject
  dsimp only
  split <;> simp

@[simp] theorem State.setPendingObject_control (r : Ring) (o : Option PendingObject) :
    (s.setPendingObject r o).control = s.control := rfl

@[simp] theorem State.considerObject_control (p : SetupParams) (r : RenderRecord)
    (o : PendingObject) : (s.considerObject p r o).control = s.control := by
  unfold State.considerObject
  dsimp only
  split_ifs <;> simp

@[simp] theorem State.startAdmission_control (p : SetupParams) (r : RenderRecord) :
    (s.startAdmission p r).control = s.control := by
  unfold State.startAdmission
  split <;> simp

@[simp] theorem State.recordRead_control (p : SetupParams) (r : RenderRecord) (d : BitVec 256) :
    (s.recordRead p r d).control = s.control := by
  unfold State.recordRead
  dsimp only
  split <;> simp

@[simp] theorem State.beginRender_control (p : SetupParams) (side : Ring) (o : Owner) (i : BufferId)
    (k rows : Nat) : (s.beginRender p side o i k rows).control = s.control := rfl

@[simp] theorem State.grant_control (p : SetupParams) (side : Ring) (o : Owner) (i : BufferId)
    (k rows : Nat) : (s.grant p side o i k rows).control = s.control := by
  obtain ⟨-, h⟩ | ⟨-, h, -⟩ := s.grant_cases p side o i k rows <;> rw [h]
  · rfl
  · exact State.startAdmission_control _ p _

@[simp] theorem State.arbitrate_control (p : SetupParams) : (s.arbitrate p).control = s.control := by
  unfold State.arbitrate
  split
  · rfl
  · split
    · simp
    · split <;> simp

@[simp] theorem State.endRecordFetch_control (p : SetupParams) (r : RenderRecord)
    (result : BusRead (BitVec 256)) : (s.endRecordFetch p r result).control = s.control := by
  unfold State.endRecordFetch
  split
  · rfl
  · cases result <;> simp

@[simp] theorem State.endObjectRead_control (p : SetupParams) (r : RenderRecord) (work : PaintWork)
    (result : BusRead (List Byte)) : (s.endObjectRead p r work result).control = s.control := by
  unfold State.endObjectRead
  split
  · rfl
  · cases result <;> simp

@[simp] theorem State.placePrintBand_control (r : RenderRecord) (n : Nat) :
    (s.placePrintBand r n).control = s.control := by
  unfold State.placePrintBand
  split <;> rfl

@[simp] theorem State.endPrintRender_control (p : SetupParams) (r : RenderRecord) (l : LabelEntry) :
    (s.endPrintRender p r l).control = s.control := by
  unfold State.endPrintRender
  dsimp only
  split <;> simp

@[simp] theorem State.endImageRender_control (p : SetupParams) (r : RenderRecord) (j : ImageJob) :
    (s.endImageRender p r j).control = s.control := by
  unfold State.endImageRender
  dsimp only
  split <;> simp

@[simp] theorem State.endRender_control (p : SetupParams) (r : RenderRecord) :
    (s.endRender p r).control = s.control := by
  unfold State.endRender
  dsimp only
  split <;> split <;> simp

end JobUpdates

/-! ### The image job's leaving -/

/-- The blocks outside the jobs are kept, or one entry of the IMAGE retire queue is marked finished. -/
def State.keptButImageEntry (s t : State) : Prop :=
  t.control = s.control ∨ ∃ i res, t.control = (s.finishRetire .image i res).control

theorem State.control_finishRetire {s t : State} (h : t.control = s.control) (r : Ring) (i : Half)
    (res : Results) : (t.finishRetire r i res).control = (s.finishRetire r i res).control := by
  simp only [State.control, Control.mk.injEq] at h
  obtain ⟨h1, h2, h3, h4, h5, h6, h7, h8, h9, h10, h11, h12⟩ := h
  simp [State.finishRetire, State.setRetire, State.setCompletion, State.control, *]

theorem State.imageLeaves_control {s t : State} (h : t.control = s.control) :
    s.keptButImageEntry t.imageLeaves := by
  unfold State.imageLeaves
  split
  · exact .inl h
  · next j _ =>
    refine .inr ⟨j.ringIndex, j.results, ?_⟩
    rw [State.setImage_control, State.control_finishRetire h]

theorem State.dropImage_control {s t : State} (h : t.control = s.control) (i : BufferId) :
    s.keptButImageEntry (t.dropImage i) := State.imageLeaves_control (h : (t.freeBand i).control = _)

theorem State.abortImageJob_control (s : State) : s.keptButImageEntry s.abortImageJob := by
  have ended := s.endImage_control .aborted noObject
  unfold State.abortImageJob
  split
  · exact .inl rfl
  · split
    · exact .inl rfl
    · dsimp only
      split
      · exact .inl ended
      · exact .inl ended
      · exact .inl ended
      · exact State.imageLeaves_control ended
      · split
        · exact State.dropImage_control ended _
        · exact State.imageLeaves_control ended
        · exact .inl ended

theorem State.cutRender_control (s : State) (r : RenderRecord) :
    s.keptButImageEntry (s.cutRender r) := by
  unfold State.cutRender
  dsimp only
  split
  · exact .inl (by simp)
  · exact State.imageLeaves_control (by simp)

theorem State.rowWritten_control (s : State) (p : SetupParams) (j : ImageJob) (i : BufferId)
    (w : RowWrite) : s.keptButImageEntry (s.rowWritten p j i w) := by
  unfold State.rowWritten
  dsimp only
  split
  · exact .inl (by simp)
  · split
    · exact State.dropImage_control (by simp) _
    · exact .inl (by simp)

theorem State.endRowWrite_control (s : State) (p : SetupParams) (j : ImageJob) (i : BufferId)
    (w : RowWrite) (result : BusWrite) : s.keptButImageEntry (s.endRowWrite p j i w result) := by
  unfold State.endRowWrite
  split
  · exact State.dropImage_control rfl _
  · cases result
    · exact s.rowWritten_control p j i w
    · exact State.dropImage_control (by simp) _

theorem State.removeLabel_control (s : State) (l : LabelEntry) :
    (s.removeLabel l).control = (s.finishRetire .print l.ringIndex l.results).control := rfl

/-- The work on jobs keeps the blocks outside the jobs, but that it may mark one retire entry finished. -/
theorem JobEffect.control {s u : State} (h : JobEffect s u) :
    u.control = s.control ∨ ∃ r i res, u.control = (s.finishRetire r i res).control := by
  have image {t : State} (ht : s.keptButImageEntry t) :
      t.control = s.control ∨ ∃ r i res, t.control = (s.finishRetire r i res).control :=
    ht.imp_right fun ⟨i, res, e⟩ => ⟨.image, i, res, e⟩
  cases h with
  | rowStep p l => exact .inl (s.rowStep_control p l)
  | mark l => exact .inl rfl
  | burnMainEnd p d => exact .inl (s.endBurnMain_control p d)
  | burnBoostEnd p d => exact .inl (s.endDelivery_control p d)
  | grant p => exact .inl (s.arbitrate_control p)
  | recordFetchEnd p r a result => exact .inl (s.endRecordFetch_control p r result)
  | objectReadEnd p r a n work result => exact .inl (s.endObjectRead_control p r work result)
  | renderEnd p r => exact .inl (s.endRender_control p r)
  | renderCut r => exact image (s.cutRender_control r)
  | rowWriteEnd p j w i result => exact image (s.endRowWrite_control p j i w result)
  | leaveWaiting l => exact .inl (s.startHead_control l)
  | labelLeaves l => exact .inr ⟨.print, l.ringIndex, l.results, s.removeLabel_control l⟩

end Sys2Proof.Machine

/-! SUPPORT. The level of RESET_N, SETUP and the render states through every effect, and from those the
invariants on the register window (O54) and on the render states (O58). -/

namespace Sys2Proof.Machine

/-! ### What the rings and the completion unit leave alone -/

/-- The level of RESET_N, SETUP and the render states: what few commands change. -/
def State.still (s : State) : Bool × Word × PerRing RenderState :=
  (s.resetHeld, s.setup, s.renderStates)

theorem State.still_of_control {s t : State} (h : t.control = s.control) : t.still = s.still := by
  simp only [State.still, State.resetHeld_of_control h, State.setup_of_control h,
    State.renderStates_of_control h]

section Still

variable (s : State)

@[simp] theorem State.setEngine_still (e : EngineControl) : (s.setEngine e).still = s.still := rfl
@[simp] theorem State.setRing_still (r : Ring) (x : RingRecord) : (s.setRing r x).still = s.still :=
  rfl
@[simp] theorem State.setCompletion_still (c : CompletionUnit) :
    (s.setCompletion c).still = s.still := rfl
@[simp] theorem State.setLoad_still (r : Ring) (x : Option StateLoad) :
    (s.setLoad r x).still = s.still := rfl
@[simp] theorem State.setCause_still (c : Cause) : (s.setCause c).still = s.still := rfl
@[simp] theorem State.finishRetire_still (r : Ring) (i : Half) (res : Results) :
    (s.finishRetire r i res).still = s.still := rfl
@[simp] theorem State.takeProper_still (r : Ring) (k : Byte) (tag : Half) (res : Option Results) :
    (s.takeProper r k tag res).still = s.still := rfl
@[simp] theorem State.faultRing_still (r : Ring) (x : RingState) :
    (s.faultRing r x).still = s.still := rfl
@[simp] theorem State.dropFetch_still (r : Ring) : (s.dropFetch r).still = s.still := rfl
@[simp] theorem State.setTimer_still (t : Option Nat) : (s.setTimer t).still = s.still := rfl
@[simp] theorem State.beginFetch_still (p : SetupParams) (r : Ring) :
    (s.beginFetch p r).still = s.still := rfl
@[simp] theorem State.beginWrite_still (p : SetupParams) (r : Ring) (e : RetireEntry) (res : Results) :
    (s.beginWrite p r e res).still = s.still := rfl
@[simp] theorem State.storeProducer_still (r : Ring) (v : Half) :
    (s.storeProducer r v).still = s.still := rfl

@[simp] theorem State.discardTake_still (r : Ring) : (s.discardTake r).still = s.still := by
  obtain ⟨-, h⟩ | ⟨_, _, -, h⟩ | ⟨_, -, h⟩ := s.discardTake_cases r <;> rw [h] <;> rfl

@[simp] theorem State.checkOverrun_still (p : SetupParams) (r : Ring) :
    (s.checkOverrun p r).still = s.still := by
  obtain h | ⟨-, -, h⟩ := s.checkOverrun_cases p r <;> rw [h]
  rw [State.discardTake_still, State.faultRing_still]

@[simp] theorem State.endFlushAtBoundary_still (r : Ring) :
    (s.endFlushAtBoundary r).still = s.still := by
  unfold State.endFlushAtBoundary
  split
  · split <;> rfl
  all_goals rfl

@[simp] theorem State.takeFlushed_still (r : Ring) (d : BitVec 256) :
    (s.takeFlushed r d).still = s.still := by simp [State.takeFlushed, State.takeFinished]

@[simp] theorem State.flushHeld_still (r : Ring) : (s.flushHeld r).still = s.still := by
  unfold State.flushHeld
  split
  · exact s.takeFlushed_still r _
  · rfl

@[simp] theorem State.beginFlush_still (r : Ring) : (s.beginFlush r).still = s.still := by
  unfold State.beginFlush
  dsimp only
  split
  · split
    · split
      · exact State.flushHeld_still _ r
      · rfl
    · exact State.flushHeld_still _ r
    all_goals rfl
  · rfl

@[simp] theorem State.abortStateLoad_still (r : Ring) : (s.abortStateLoad r).still = s.still := by
  unfold State.abortStateLoad
  split
  · split <;> rfl
  · rfl

@[simp] theorem State.abortLabels_still : s.abortLabels.still = s.still :=
  State.still_of_control s.abortLabels_control

@[simp] theorem State.abortImageJob_still : s.abortImageJob.still = s.still := by
  obtain e | ⟨i, res, e⟩ := s.abortImageJob_control
  · exact State.still_of_control e
  · exact (State.still_of_control e).trans (s.finishRetire_still _ _ _)

theorem JobEffect.still {s u : State} (h : JobEffect s u) : u.still = s.still := by
  obtain e | ⟨r, i, res, e⟩ := h.control
  · exact State.still_of_control e
  · exact (State.still_of_control e).trans (s.finishRetire_still _ _ _)

@[simp] theorem State.beginDrain_still : s.beginDrain.still = s.still := by
  unfold State.beginDrain
  dsimp only
  split <;> simp [State.toStopped]

@[simp] theorem State.trimFlush_still (r : Ring) : (s.trimFlush r).still = s.still := by
  unfold State.trimFlush
  dsimp only
  split
  · split_ifs <;> rfl
  all_goals rfl

@[simp] theorem State.producerChecked_still (r : Ring) (v : Half) :
    (s.producerChecked r v).still = s.still := by
  unfold State.producerChecked
  split <;> simp

@[simp] theorem State.writeCread_still (v : Half) : (s.writeCread v).still = s.still := by
  unfold State.writeCread
  dsimp only
  split_ifs <;> rfl

@[simp] theorem State.coalesceClear_still (p : SetupParams) : (s.coalesceClear p).still = s.still := by
  unfold State.coalesceClear
  split_ifs <;> rfl

@[simp] theorem State.coalescePosting_still (p : SetupParams) :
    (s.coalescePosting p).still = s.still := by
  unfold State.coalescePosting
  split_ifs <;> rfl

@[simp] theorem State.writeCause_still (b : BitVec 6) : (s.writeCause b).still = s.still := by
  unfold State.writeCause
  dsimp only
  split
  · split
    · rw [State.coalesceClear_still]; rfl
    · rfl
  · rfl

@[simp] theorem State.expireTimer_still : s.expireTimer.still = s.still := by
  unfold State.expireTimer
  split <;> rfl

@[simp] theorem State.countDown_still : s.countDown.still = s.still := by
  unfold State.countDown
  split <;> simp

@[simp] theorem State.beginSetupFetch_still : s.beginSetupFetch.still = s.still := by
  unfold State.beginSetupFetch
  split <;> rfl

@[simp] theorem State.setupOutcome_still (result : BusRead (BitVec 512)) :
    (s.setupOutcome result).still = s.still := by
  unfold State.setupOutcome
  dsimp only
  split
  · rfl
  · split <;> simp

@[simp] theorem State.takeLabel_still (d : BitVec 256) (f : LabelFields) :
    (s.takeLabel d f).still = s.still := by
  unfold State.takeLabel
  dsimp only
  split
  · rw [State.still_of_control (State.setUpWalker_control _ _ _ _ _)]; rfl
  · rfl

@[simp] theorem State.takeImage_still (d : BitVec 256) (f : ImageFields) :
    (s.takeImage d f).still = s.still := by
  unfold State.takeImage
  dsimp only
  split
  · rw [State.still_of_control (State.setUpWalker_control _ _ _ _ _)]; rfl
  · rfl

@[simp] theorem State.takeChecked_still (r : Ring) (d : BitVec 256) :
    (s.takeChecked r d).still = s.still := by
  unfold State.takeChecked
  split
  · rfl
  · rfl
  · split <;> simp [State.setTake]
  · exact s.takeImage_still d _
  · rfl
  · rfl

@[simp] theorem State.endFetch_still (r : Ring) (marked : Bool) (result : BusRead (BitVec 256)) :
    (s.endFetch r marked result).still = s.still := by
  obtain ⟨-, h⟩ | ⟨-, -, h⟩ | ⟨-, d, -, ⟨-, h⟩ | ⟨-, -, h⟩ | ⟨-, -, h⟩⟩ :=
    s.endFetch_cases r marked result <;> rw [h] <;> simp

@[simp] theorem State.choosePort_still (p : SetupParams) : (s.choosePort p).still = s.still := by
  unfold State.choosePort
  split
  · rfl
  · rfl
  · rfl
  · split <;> rfl

@[simp] theorem State.post_still (p : SetupParams) (w : CompletionWrite) :
    (s.post p w).still = s.still := by simp [State.post]

@[simp] theorem State.countDiscarded_still : s.countDiscarded.still = s.still := by
  unfold State.countDiscarded
  split <;> rfl

@[simp] theorem State.enterHalted_still (r : Ring) : (s.enterHalted r).still = s.still :=
  s.countDiscarded_still

end Still

/-! ### The end of a state-record load -/

/-- A load ends discarded, failed with a status, or with a valid record applied (R84, R92). -/
theorem State.endLoad_cases (s : State) (r : Ring) (ld : StateLoad)
    (result : BusRead (BitVec 384)) :
    (s.loadDiscarded ld = true ∧ s.endLoad r ld result = (s.setLoad r none).loadDropped r ld) ∨
    (s.loadDiscarded ld = false ∧ ∃ st,
      s.endLoad r ld result = (s.setLoad r none).loadFailed r ld st) ∨
    (s.loadDiscarded ld = false ∧ ∃ d, result = .data d ∧ stateRecordValid d = true ∧
      s.endLoad r ld result = (s.setLoad r none).loadApplied r ld d) := by
  unfold State.endLoad
  cases hdiscarded : s.loadDiscarded ld with
  | true => exact .inl ⟨rfl, rfl⟩
  | false =>
    refine .inr ?_
    cases result with
    | busError => exact .inl ⟨rfl, _, rfl⟩
    | data d =>
      cases hvalid : stateRecordValid d with
      | true => exact .inr ⟨rfl, d, rfl, hvalid, by simp [hvalid]⟩
      | false => exact .inl ⟨rfl, .stateFault, by simp [hvalid]⟩

/-- The end of a load keeps the render states, or puts a valid record's groups into its ring's (R86, R87,
R92). -/
theorem State.endLoad_still (s : State) (r : Ring) (ld : StateLoad)
    (result : BusRead (BitVec 384)) :
    (s.endLoad r ld result).still = s.still ∨ ∃ d, stateRecordValid d = true ∧
      (s.endLoad r ld result).still = (s.resetHeld, s.setup,
        s.renderStates.set r (applyStateRecord d (s.renderStates.get r))) := by
  have leaves {t u : State} (h : u.control = t.control) : u.imageLeaves.still = t.still := by
    obtain h | ⟨i, res, h⟩ := State.imageLeaves_control h
    · exact State.still_of_control h
    · exact (State.still_of_control h).trans (t.finishRetire_still _ _ _)
  have failed (t : State) (st : Status) : (t.loadFailed r ld st).still = t.still := by
    unfold State.loadFailed
    split
    · exact State.still_of_control (by simp)
    · exact leaves (t.endImage_control _ _)
    · rfl
  obtain ⟨-, h⟩ | ⟨-, st, h⟩ | ⟨-, d, -, hvalid, h⟩ := s.endLoad_cases r ld result <;> rw [h]
  · refine .inl ?_
    unfold State.loadDropped
    split
    · rfl
    · exact leaves (t := s.setLoad r none) rfl
    · rfl
  · exact .inl (failed _ _)
  · refine .inr ⟨d, hvalid, ?_⟩
    unfold State.loadApplied
    dsimp only
    split
    · exact State.still_of_control (s := (s.setLoad r none).setRenderState r
        (applyStateRecord d (s.renderStates.get r))) (by simp)
    · exact State.still_of_control (s := (s.setLoad r none).setRenderState r
        (applyStateRecord d (s.renderStates.get r))) (by simp)
    · rfl

/-! ### The register window -/

/-- No effect but a write of SETUP changes the level of RESET_N or SETUP (R200). -/
theorem Effect.level_setup {s u : State} (h : Effect s u) :
    u.resetHeld = s.resetHeld ∧ (u.setup = s.setup ∨ ∃ v, u.setup = v &&& ~~~0x3F#32) := by
  have of_still {t : State} (e : t.still = s.still) :
      t.resetHeld = s.resetHeld ∧ (t.setup = s.setup ∨ ∃ v, t.setup = v &&& ~~~0x3F#32) :=
    ⟨congrArg Prod.fst e, .inl (congrArg (fun x => x.2.1) e)⟩
  cases h with
  | idle => exact ⟨rfl, .inl rfl⟩
  | setupWrite v => exact ⟨rfl, .inr ⟨v, rfl⟩⟩
  | ienWrite v => exact ⟨rfl, .inl rfl⟩
  | start => exact ⟨rfl, .inl rfl⟩
  | engineReset =>
    exact ⟨congrArg Prod.fst s.countDiscarded_still, .inl s.engineReset_setup⟩
  | ringReset r =>
    have e := s.discardTake_still r
    exact ⟨congrArg Prod.fst e, .inl (congrArg (fun x => x.2.1) e)⟩
  | loadEnd r ld result =>
    obtain e | ⟨d, -, e⟩ := s.endLoad_still r ld result
    · exact of_still e
    · exact ⟨congrArg Prod.fst e, .inl (congrArg (fun x => x.2.1) e)⟩
  | job hjob => exact of_still hjob.still
  | contestedFetch p r => exact of_still rfl
  | recordLost p w => exact of_still (State.enterHalted_still _ _)
  | drained => exact of_still rfl
  | _ => exact of_still (by simp)

/-- A word with its low six bits cleared has none of them left. -/
theorem and_mask_and_low (v : Word) : v &&& ~~~0x3F#32 &&& 0x3F#32 = 0#32 := by
  rw [BitVec.and_assoc, show ~~~0x3F#32 &&& 0x3F#32 = 0#32 from rfl, BitVec.and_zero]

/-- Settles O54: the wrapper settles the pins, and SETUP is written aligned. -/
theorem stepKeepsWindow : Obligations.StepKeepsWindow := by
  intro s t ⟨hpins, hsetup⟩ hstep
  obtain ⟨rest, ⟨hheld, rfl⟩ | ⟨hlive, u, hu, rfl⟩ | rfl | rfl⟩ := step_cases hstep
  · exact ⟨hpins, hsetup⟩
  · obtain ⟨hlevel, hkept⟩ := hu.level_setup
    refine ⟨?_, ?_⟩
    · rw [State.settle_resetHeld, hlevel, show (s.setPending rest).resetHeld = false from hlive]
      rfl
    · rw [State.settle_setup]
      obtain h | ⟨v, h⟩ := hkept
      · exact h ▸ hsetup
      · exact h ▸ and_mask_and_low v
  · exact ⟨rfl, (by decide : 0#32 &&& 0x3F#32 = 0#32)⟩
  · exact ⟨rfl, hsetup⟩

/-! ### The render states -/

theorem RenderState.initial_inRange : RenderState.initial.inRange := by
  unfold RenderState.inRange
  decide

theorem Half.toInt_inRange (x : Half) : -32768 ≤ x.toInt ∧ x.toInt ≤ 32767 := by
  have := x.le_toInt
  have := x.toInt_lt
  omega

theorem Half.toNat_le (x : Half) : x.toNat ≤ 65535 := by omega

/-- A valid record's groups keep a render state in range (R81, R85). -/
theorem applyStateRecord_inRange {d : BitVec 384} {x : RenderState}
    (hvalid : stateRecordValid d = true) (hx : x.inRange) : (applyStateRecord d x).inRange := by
  unfold stateRecordValid at hvalid
  simp only [Bool.and_eq_true, Bool.or_eq_true, Bool.not_eq_true', decide_eq_true_eq, aligned] at hvalid
  obtain ⟨⟨⟨-, hglyphs⟩, hspacing⟩, hstroke⟩ := hvalid
  obtain ⟨hX, hY, ⟨hl, ht, hr, hb⟩, ⟨htable, hcount⟩, hextra, hwidth⟩ := hx
  unfold applyStateRecord
  refine ⟨?_, ?_, ⟨?_, ?_, ?_, ?_⟩, ⟨?_, ?_⟩, ?_, ?_⟩ <;> dsimp only <;> split
  · exact Half.toInt_inRange _
  · exact hX
  · exact Half.toInt_inRange _
  · exact hY
  · exact Half.toNat_le _
  · exact hl
  · exact Half.toNat_le _
  · exact ht
  · exact Half.toNat_le _
  · exact hr
  · exact Half.toNat_le _
  · exact hb
  · exact (hglyphs.resolve_left (by simp [*])).2
  · exact htable
  · exact (hglyphs.resolve_left (by simp [*])).1
  · exact hcount
  · exact hspacing.resolve_left (by simp [*])
  · exact hextra
  · exact hstroke.resolve_left (by simp [*])
  · exact hwidth

theorem RenderStatesInRange.get {s : State} (h : RenderStatesInRange s) (r : Ring) :
    (s.renderStates.get r).inRange := by
  cases r
  · exact h.1
  · exact h.2

/-- One ring's render state replaced by one in range. -/
theorem RenderStatesInRange.set {s u : State} (h : RenderStatesInRange s) {r : Ring} {x : RenderState}
    (hx : x.inRange) (hu : u.renderStates = s.renderStates.set r x) : RenderStatesInRange u := by
  unfold RenderStatesInRange
  rw [hu]
  cases r
  · exact ⟨hx, h.2⟩
  · exact ⟨h.1, hx⟩

/-- Every effect keeps the render states in range: a reset or a valid record changes one, no other does. -/
theorem Effect.renderStates {s u : State} (hs : RenderStatesInRange s) (h : Effect s u) :
    RenderStatesInRange u := by
  have of_still {t : State} (e : t.still = s.still) : RenderStatesInRange t := by
    have : t.renderStates = s.renderStates := congrArg (fun x => x.2.2) e
    unfold RenderStatesInRange
    rw [this]
    exact hs
  cases h with
  | idle => exact hs
  | start | engineReset => exact ⟨RenderState.initial_inRange, RenderState.initial_inRange⟩
  | ringReset r =>
    have e : (s.discardTake r).renderStates = s.renderStates :=
      congrArg (fun x => x.2.2) (s.discardTake_still r)
    exact hs.set RenderState.initial_inRange (congrArg (·.set r RenderState.initial) e)
  | loadEnd r ld result =>
    obtain e | ⟨d, hvalid, e⟩ := s.endLoad_still r ld result
    · exact of_still e
    · exact hs.set (applyStateRecord_inRange hvalid (hs.get r)) (congrArg (fun x => x.2.2) e)
  | setupWrite v | ienWrite v => exact hs
  | job hjob => exact of_still hjob.still
  | contestedFetch p r => exact of_still rfl
  | recordLost p w => exact of_still (State.enterHalted_still _ _)
  | drained => exact of_still rfl
  | _ => exact of_still (by simp)

/-- Settles O58, effect by effect. -/
theorem stepKeepsRenderStates : Obligations.StepKeepsRenderStates := by
  intro s t hs hstep
  exact step_keeps (P := RenderStatesInRange) (fun _ _ h => h) (fun _ _ h => h) (fun _ h => h)
    (fun _ => ⟨RenderState.initial_inRange, RenderState.initial_inRange⟩)
    (fun h => Effect.renderStates h) hs hstep

end Sys2Proof.Machine

/-! SUPPORT. Completion slots (R166, R168, R170): what each operation on takes, retire queues and the
completion unit does to the slot accounting, and from that its invariant (O55). -/

namespace Sys2Proof.Machine

/-! ### Operations that promise and free no slot -/

/-- A write in flight is of a record in its queue. -/
theorem SlotAccounting.queued {s : State} (hs : SlotAccounting s) :
    ∀ w ∈ s.completion.write, s.completion.retire.get w.ring ≠ [] := by
  obtain ⟨-, -, -, hwrite, -⟩ := hs
  exact hwrite

/-- The slot accounting reads counts alone: it is kept where they are. -/
theorem SlotAccounting.of_counts {s u : State} (hs : SlotAccounting s)
    (hreserved : u.completion.reserved = s.completion.reserved)
    (hslots : ∀ r, u.ringSlots r = s.ringSlots r)
    (hunconsumed : u.unconsumed ≤ s.unconsumed)
    (hwrite : ∀ w ∈ u.completion.write, u.completion.retire.get w.ring ≠ [])
    (hparams : u.engine.params = s.engine.params)
    (hstate : u.engine.state = .starting → s.engine.state = .starting) : SlotAccounting u := by
  obtain ⟨htotal, hprint, himage, -, hsize, hnone, hstarting⟩ := hs
  refine ⟨?_, ?_, ?_, hwrite, ?_, ?_, ?_⟩
  · rw [hreserved, hslots, hslots, htotal]
  · rw [hslots]; exact hprint
  · rw [hslots]; exact himage
  · rw [hparams, hreserved]
    intro p hp
    obtain ⟨hvalid, hfit⟩ := hsize p hp
    exact ⟨hvalid, by omega⟩
  · rw [hparams, hreserved]
    intro hp
    obtain ⟨hzero, hall⟩ := hnone hp
    exact ⟨hzero, by omega⟩
  · rw [hparams]
    exact fun h => hstarting (hstate h)

/-- Where the completion unit stands as it was, the takes hold as many slots, and the session is the same. -/
theorem SlotAccounting.of_takes {s u : State} (hs : SlotAccounting s)
    (hcompletion : u.completion = s.completion)
    (htakes : ∀ r, (u.rings.get r).take.slots = (s.rings.get r).take.slots)
    (hparams : u.engine.params = s.engine.params)
    (hstate : u.engine.state = .starting → s.engine.state = .starting) : SlotAccounting u := by
  have hwrite := hs.queued
  refine hs.of_counts (by rw [hcompletion]) (fun r => ?_) ?_ ?_ hparams hstate
  · simp only [State.ringSlots, htakes, hcompletion]
  · exact le_of_eq (by simp only [State.unconsumed, hcompletion])
  · rwa [hcompletion]

theorem SlotAccounting.of_control {s u : State} (hs : SlotAccounting s) (h : u.control = s.control) :
    SlotAccounting u :=
  hs.of_takes (State.completion_of_control h) (fun r => by rw [State.rings_of_control h])
    (by rw [State.engine_of_control h]) (by rw [State.engine_of_control h]; exact id)

/-- A ring's record replaced by one whose take holds as many slots. -/
theorem SlotAccounting.setRing {s : State} (hs : SlotAccounting s) {r : Ring} {x : RingRecord}
    (hx : x.take.slots = (s.rings.get r).take.slots) : SlotAccounting (s.setRing r x) := by
  refine hs.of_takes rfl (fun q => ?_) rfl id
  rw [State.setRing_rings, PerRing.get_set]
  split
  · next h => subst h; exact hx
  · rfl

theorem SlotAccounting.setRingState {s : State} (hs : SlotAccounting s) (r : Ring) (x : RingState) :
    SlotAccounting (s.setRingState r x) := hs.setRing rfl

theorem SlotAccounting.setCause {s : State} (hs : SlotAccounting s) (c : Cause) :
    SlotAccounting (s.setCause c) := hs

theorem SlotAccounting.faultRing {s : State} (hs : SlotAccounting s) (r : Ring) (x : RingState) :
    SlotAccounting (s.faultRing r x) := hs.setRingState r x

/-- Finishing an entry keeps every queue as long as it is. -/
theorem SlotAccounting.finishRetire {s : State} (hs : SlotAccounting s) (r : Ring) (i : Half)
    (res : Results) : SlotAccounting (s.finishRetire r i res) := by
  have length (q : Ring) := s.finishRetire_length r q i res
  refine hs.of_counts rfl (fun q => ?_) le_rfl (fun w hw => ?_) rfl id
  · exact congrArg (· + (s.rings.get q).take.slots) (length q)
  · have := hs.queued w hw
    rwa [ne_eq, ← List.length_eq_zero_iff, length, List.length_eq_zero_iff]

theorem SlotAccounting.keptButImageEntry {s u : State} (hs : SlotAccounting s)
    (h : s.keptButImageEntry u) : SlotAccounting u := by
  obtain h | ⟨i, res, h⟩ := h
  · exact hs.of_control h
  · exact (hs.finishRetire .image i res).of_control h

/-! ### Slots promised and released -/

/-- A slot that a take held is released, and the take with it. -/
theorem SlotAccounting.drop {s : State} (hs : SlotAccounting s) {r : Ring}
    (htake : (s.rings.get r).take.slots = 1) : SlotAccounting ((s.setTake r .none).releaseSlot) := by
  obtain ⟨htotal, hprint, himage, hwrite, hsize, hnone, hstarting⟩ := hs
  have hslot : (s.completion.retire.get r).length + 1 = s.ringSlots r := by
    rw [State.ringSlots, htake]
  have counts (q : Ring) : ((s.setTake r .none).releaseSlot).ringSlots q =
      if q = r then s.ringSlots q - 1 else s.ringSlots q := by
    simp only [State.ringSlots, State.releaseSlot_eq, State.setTake, State.setRing_rings,
      State.setRing_completion, PerRing.get_set]
    split
    · next h => subst h; rw [htake]; rfl
    · rfl
  have hreserved : ((s.setTake r .none).releaseSlot).completion.reserved =
      s.completion.reserved - 1 := rfl
  have hunconsumed : ((s.setTake r .none).releaseSlot).unconsumed = s.unconsumed := rfl
  refine ⟨?_, ?_, ?_, hwrite, fun p hp => ?_, fun hp => ?_, hstarting⟩
  · rw [hreserved, counts, counts]
    cases r <;> simp <;> omega
  · rw [counts]
    cases r <;> simp <;> omega
  · rw [counts]
    cases r <;> simp <;> omega
  · obtain ⟨hvalid, hfit⟩ := hsize p hp
    exact ⟨hvalid, by omega⟩
  · obtain ⟨hzero, hall⟩ := hnone hp
    exact ⟨by omega, by omega⟩

/-- A discarded take keeps a fetch's slot and releases a held LABEL's (R148, R151). -/
theorem SlotAccounting.discardTake {s : State} (hs : SlotAccounting s) (r : Ring) :
    SlotAccounting (s.discardTake r) := by
  obtain ⟨-, h⟩ | ⟨a, d, htake, h⟩ | ⟨b, htake, h⟩ := s.discardTake_cases r <;> rw [h]
  · exact hs
  · exact hs.setRing (by rw [htake]; rfl)
  · exact hs.drop (by rw [htake]; rfl)

theorem SlotAccounting.checkOverrun {s : State} (hs : SlotAccounting s) (p : SetupParams) (r : Ring) :
    SlotAccounting (s.checkOverrun p r) := by
  obtain h | ⟨-, -, h⟩ := s.checkOverrun_cases p r <;> rw [h]
  · exact hs
  · exact (hs.faultRing r _).discardTake r

/-- A take passes its slot on to the retire entry it appends (R152). -/
theorem SlotAccounting.takeProper {s : State} (hs : SlotAccounting s) {r : Ring}
    (htake : (s.rings.get r).take.slots = 1) (k : Byte) (tag : Half) (res : Option Results) :
    SlotAccounting (s.takeProper r k tag res) := by
  refine hs.of_counts rfl (fun q => ?_) le_rfl (fun w hw => ?_) rfl id
  · simp only [State.takeProper_eq, State.ringSlots, PerRing.get_set]
    split
    · next h =>
      subst h
      rw [htake, List.length_append]
      rfl
    · rfl
  · simp only [State.takeProper_eq, PerRing.get_set]
    split
    · simp
    · exact hs.queued w hw

theorem SlotAccounting.endFlushAtBoundary {s : State} (hs : SlotAccounting s) (r : Ring) :
    SlotAccounting (s.endFlushAtBoundary r) := by
  unfold State.endFlushAtBoundary
  split
  · split
    · exact hs.setRing rfl
    · exact hs
  all_goals exact hs

theorem SlotAccounting.takeFlushed {s : State} (hs : SlotAccounting s) {r : Ring}
    (htake : (s.rings.get r).take.slots = 1) (d : BitVec 256) : SlotAccounting (s.takeFlushed r d) :=
  (hs.takeProper htake _ _ _).endFlushAtBoundary r

theorem SlotAccounting.flushHeld {s : State} (hs : SlotAccounting s) (r : Ring) :
    SlotAccounting (s.flushHeld r) := by
  unfold State.flushHeld
  split
  · next htake => exact hs.takeFlushed (by rw [htake]; rfl) _
  · exact hs

theorem SlotAccounting.beginFlush {s : State} (hs : SlotAccounting s) (r : Ring) :
    SlotAccounting (s.beginFlush r) := by
  have flushing (x : RingState) : SlotAccounting ((s.setRingState r x).flushHeld r) :=
    (hs.setRingState r x).flushHeld r
  unfold State.beginFlush
  dsimp only
  split
  · split
    · split
      · exact flushing _
      · exact hs
    · exact flushing _
    all_goals exact hs
  · exact hs

theorem SlotAccounting.abortStateLoad {s : State} (hs : SlotAccounting s) (r : Ring) :
    SlotAccounting (s.abortStateLoad r) := by
  unfold State.abortStateLoad
  split
  · split <;> exact hs
  · exact hs

/-! ### Takes -/

theorem SlotAccounting.takeLabel {s : State} (hs : SlotAccounting s)
    (htake : s.rings.print.take.slots = 1) (d : BitVec 256) (f : LabelFields) :
    SlotAccounting (s.takeLabel d f) := by
  have taken := hs.takeProper (r := .print) htake (descriptorKind d) (descriptorTag d) none
  unfold State.takeLabel
  dsimp only
  split
  · exact taken.of_control (by simp)
  · exact taken

theorem SlotAccounting.takeImage {s : State} (hs : SlotAccounting s)
    (htake : s.rings.image.take.slots = 1) (d : BitVec 256) (f : ImageFields) :
    SlotAccounting (s.takeImage d f) := by
  have taken := hs.takeProper (r := .image) htake (descriptorKind d) (descriptorTag d) none
  unfold State.takeImage
  dsimp only
  split
  · exact taken.of_control (by simp)
  · exact taken

/-- A valid LABEL is of the PRINT ring and a valid IMAGE of the IMAGE ring (R155). -/
theorem checkDescriptor_ring (r : Ring) (d : BitVec 256) :
    (∀ f, checkDescriptor r d = .valid (.label f) → r = .print) ∧
    (∀ f, checkDescriptor r d = .valid (.image f) → r = .image) := by
  unfold checkDescriptor checked
  dsimp only
  constructor <;> intro f h <;> cases r <;> simp only [reduceCtorEq] <;> split_ifs at h <;> cases h

theorem SlotAccounting.takeChecked {s : State} (hs : SlotAccounting s) {r : Ring}
    (htake : (s.rings.get r).take.slots = 1) (d : BitVec 256) : SlotAccounting (s.takeChecked r d) := by
  obtain ⟨hlabel, himage⟩ := checkDescriptor_ring r d
  unfold State.takeChecked
  split
  · exact hs.takeProper htake _ _ _
  · exact hs.takeProper htake _ _ _
  · next f hf =>
    cases hlabel f hf
    split
    · exact hs.takeLabel htake d f
    · exact hs.setRing htake.symm
  · next f hf =>
    cases himage f hf
    exact hs.takeImage htake d f
  · exact hs.takeProper htake _ _ _
  · exact hs.takeProper htake _ _ _

theorem SlotAccounting.endFetch {s : State} (hs : SlotAccounting s) {r : Ring}
    (htake : (s.rings.get r).take.slots = 1) (marked : Bool) (result : BusRead (BitVec 256)) :
    SlotAccounting (s.endFetch r marked result) := by
  have dropped := hs.drop htake
  obtain ⟨-, h⟩ | ⟨-, -, h⟩ | ⟨-, d, -, ⟨-, h⟩ | ⟨-, -, h⟩ | ⟨-, -, h⟩⟩ :=
    s.endFetch_cases r marked result <;> rw [h]
  · exact dropped
  · exact dropped.faultRing r _
  · exact dropped
  · exact hs.takeChecked htake d
  · exact hs.takeFlushed htake d

/-! ### Fetches and loads -/

/-- A request is made with no take in flight and room in the retire queue (R145, R146). -/
theorem State.slotRequest_room {s : State} {r : Ring} (h : s.slotRequest r = true) :
    s.engine.state = .running ∧ (s.rings.get r).take = .none ∧
      (s.completion.retire.get r).length < 8 := by
  simp only [State.slotRequest, Bool.and_eq_true, decide_eq_true_eq] at h
  obtain ⟨⟨⟨hrunning, htake⟩, hroom⟩, -⟩ := h
  exact ⟨hrunning, htake, hroom⟩

/-- A granted slot is free (Table 9-3). -/
theorem State.slotGranted_free {s : State} {p : SetupParams} {r : Ring}
    (h : s.slotGranted p r = true) : s.slotRequest r = true ∧ 1 ≤ s.freeSlots p := by
  simp only [State.slotGranted, Bool.and_eq_true, decide_eq_true_eq] at h
  obtain ⟨⟨hrequest, hfree⟩, -⟩ := h
  exact ⟨hrequest, hfree⟩

/-- A fetch begun on a granted slot takes one free slot for its ring (R147). -/
theorem SlotAccounting.beginFetch {s : State} (hs : SlotAccounting s) {p : SetupParams} {r : Ring}
    (hp : s.engine.params = some p) (hgranted : s.slotGranted p r = true) :
    SlotAccounting (s.beginFetch p r) := by
  obtain ⟨hrequest, hfree⟩ := State.slotGranted_free hgranted
  obtain ⟨-, htake, hroom⟩ := State.slotRequest_room hrequest
  obtain ⟨htotal, hprint, himage, hwrite, hsize, hnone, hstarting⟩ := hs
  have hslot : s.ringSlots r = (s.completion.retire.get r).length := by
    rw [State.ringSlots, htake]; rfl
  have counts (q : Ring) : (s.beginFetch p r).ringSlots q =
      if q = r then s.ringSlots r + 1 else s.ringSlots q := by
    rw [hslot]
    simp only [State.ringSlots, State.beginFetch, State.setTake, State.setRing_rings,
      State.setRing_completion, State.reserveSlot_eq, PerRing.get_set]
    split
    · next h => subst h; rfl
    · rfl
  have hreserved : (s.beginFetch p r).completion.reserved = s.completion.reserved + 1 := rfl
  have hunconsumed : (s.beginFetch p r).unconsumed = s.unconsumed := rfl
  unfold State.freeSlots at hfree
  refine ⟨?_, ?_, ?_, hwrite, fun q hq => ?_, fun hq => ?_, hstarting⟩
  · rw [hreserved, counts, counts]
    cases r <;> simp <;> omega
  · rw [counts]
    cases r <;> simp <;> omega
  · rw [counts]
    cases r <;> simp <;> omega
  · obtain ⟨hvalid, hfit⟩ := hsize q hq
    cases hp.symm.trans hq
    exact ⟨hvalid, by omega⟩
  · rw [show s.engine.params = none from hq] at hp
    cases hp

theorem SlotAccounting.endLoad {s : State} (hs : SlotAccounting s) (r : Ring) (ld : StateLoad)
    (result : BusRead (BitVec 384)) : SlotAccounting (s.endLoad r ld result) := by
  have hs' : SlotAccounting (s.setLoad r none) := hs
  have dropped : SlotAccounting ((s.setLoad r none).loadDropped r ld) := by
    unfold State.loadDropped
    split
    · exact hs'
    · exact hs'.keptButImageEntry (State.imageLeaves_control rfl)
    · exact hs'.finishRetire _ _ _
  have failed (st : Status) : SlotAccounting ((s.setLoad r none).loadFailed r ld st) := by
    unfold State.loadFailed
    split
    · exact hs'.of_control (by simp)
    · exact hs'.keptButImageEntry (State.imageLeaves_control (by simp))
    · exact hs'.finishRetire _ _ _
  have applied (d : BitVec 384) : SlotAccounting ((s.setLoad r none).loadApplied r ld d) := by
    have ht : SlotAccounting ((s.setLoad r none).setRenderState r
      (applyStateRecord d ((s.setLoad r none).renderStates.get r))) := hs
    unfold State.loadApplied
    dsimp only
    split
    · exact ht.of_control (by simp)
    · exact ht.of_control (by simp)
    · exact ht.finishRetire _ _ _
  obtain ⟨-, h⟩ | ⟨-, st, h⟩ | ⟨-, d, -, -, h⟩ := s.endLoad_cases r ld result <;> rw [h]
  · exact dropped
  · exact failed st
  · exact applied d

/-! ### The completion unit and engine control -/

theorem ringSizeValid_le {n : Nat} (h : ringSizeValid n = true) : n ≤ 256 := by
  obtain ⟨k, -, hk, rfl⟩ := (ringSizeValid_iff n).1 h
  exact Nat.pow_le_pow_right (by omega) hk

/-- A change of the completion unit that leaves its counts, its queues and its write as they are. -/
theorem SlotAccounting.setCompletion {s : State} (hs : SlotAccounting s) {c : CompletionUnit}
    (hreserved : c.reserved = s.completion.reserved) (hretire : c.retire = s.completion.retire)
    (hcounts : (c.cpost - c.cread).toNat ≤ s.unconsumed)
    (hwrite : ∀ w ∈ c.write, c.retire.get w.ring ≠ []) : SlotAccounting (s.setCompletion c) :=
  hs.of_counts hreserved
    (fun r => by simp only [State.ringSlots, State.setCompletion_completion,
      State.setCompletion_rings, hretire]) hcounts hwrite rfl id

theorem SlotAccounting.setTimer {s : State} (hs : SlotAccounting s) (t : Option Nat) :
    SlotAccounting (s.setTimer t) := hs.setCompletion rfl rfl le_rfl hs.queued

theorem SlotAccounting.coalescePosting {s : State} (hs : SlotAccounting s) (p : SetupParams) :
    SlotAccounting (s.coalescePosting p) := by
  unfold State.coalescePosting
  split_ifs
  · exact (hs.setCause _).setTimer _
  · exact hs.setTimer _
  · exact hs

theorem SlotAccounting.coalesceClear {s : State} (hs : SlotAccounting s) (p : SetupParams) :
    SlotAccounting (s.coalesceClear p) := by
  unfold State.coalesceClear
  split_ifs
  · exact (hs.setCause _).setTimer _
  · exact hs.setTimer _
  · exact hs

theorem SlotAccounting.expireTimer {s : State} (hs : SlotAccounting s) :
    SlotAccounting s.expireTimer := by
  unfold State.expireTimer
  split
  · exact (hs.setCause _).setTimer _
  · exact hs

/-- A consumer write consumes records and promises none (R178). -/
theorem SlotAccounting.writeCread {s : State} (hs : SlotAccounting s) (v : Half) :
    SlotAccounting (s.writeCread v) := by
  unfold State.writeCread
  dsimp only
  split
  · exact hs
  · split
    · next hbetween =>
      rw [indexBetween_iff] at hbetween
      refine hs.setCompletion rfl rfl ?_ hs.queued
      rw [toNat_sub_of_between hbetween]
      exact Nat.sub_le _ _
    · exact hs.setCause _

/-- A record begun to be written stands at the head of its queue (R172). -/
theorem SlotAccounting.choosePort {s : State} (hs : SlotAccounting s) (p : SetupParams) :
    SlotAccounting (s.choosePort p) := by
  have queued {r : Ring} {e : RetireEntry} {res : Results} (h : s.readyRecord r = some (e, res)) :
      s.completion.retire.get r ≠ [] := by
    intro hempty
    simp [State.readyRecord, hempty] at h
  have writing {r : Ring} {e : RetireEntry} {res : Results} (h : s.readyRecord r = some (e, res))
      (t : State) (ht : SlotAccounting t) (hretire : t.completion.retire = s.completion.retire) :
      SlotAccounting (t.beginWrite p r e res) := by
    refine ht.setCompletion rfl rfl le_rfl fun w hw => ?_
    simp only [Option.mem_def, Option.some.injEq] at hw
    subst hw
    rw [hretire]
    exact queued h
  have passed : SlotAccounting s.passPostingTurn := hs.setCompletion rfl rfl le_rfl hs.queued
  unfold State.choosePort
  split
  · exact hs
  · next h _ => exact writing h s hs rfl
  · next h => exact writing h s hs rfl
  · next hprint himage =>
    split
    · exact writing hprint _ passed rfl
    · exact writing himage _ passed rfl

/-- A posted record turns a reservation into an unconsumed record (R173). -/
theorem SlotAccounting.post {s : State} (hs : SlotAccounting s) {p : SetupParams}
    {w : CompletionWrite} (hp : s.engine.params = some p) (hw : s.completion.write = some w) :
    SlotAccounting (s.post p w) := by
  obtain ⟨htotal, hprint, himage, hwrite, hsize, hnone, hstarting⟩ := hs
  refine SlotAccounting.coalescePosting ?_ p
  set u := s.setCompletion _ with hu
  have hqueue : (s.completion.retire.get w.ring).length ≠ 0 := by
    simpa using hwrite w hw
  have counts (q : Ring) :
      u.ringSlots q = if q = w.ring then s.ringSlots q - 1 else s.ringSlots q := by
    simp only [hu, State.ringSlots, State.setCompletion_completion, State.setCompletion_rings,
      PerRing.get_set]
    split
    · next h =>
      subst h
      rw [List.length_tail]
      omega
    · rfl
  have hslot : 1 ≤ s.ringSlots w.ring := by
    unfold State.ringSlots
    omega
  obtain ⟨hvalid, hfit⟩ := hsize p hp
  have hbound := ringSizeValid_le hvalid
  have hunconsumed : u.unconsumed = s.unconsumed + 1 := by
    simp only [hu, State.unconsumed, State.setCompletion_completion] at hfit ⊢
    have : s.completion.cpost + 1#16 - s.completion.cread =
        (s.completion.cpost - s.completion.cread) + 1#16 := by ring
    rw [this, BitVec.toNat_add]
    simp only [BitVec.toNat_ofNat]
    omega
  have hreserved : u.completion.reserved = s.completion.reserved - 1 := rfl
  have htotal' : 1 ≤ s.completion.reserved := by
    rw [htotal]
    cases h : w.ring <;> rw [h] at hslot <;> omega
  refine ⟨?_, ?_, ?_, by rintro _ ⟨⟩, fun q hq => ?_, fun hq => ?_, hstarting⟩
  · rw [hreserved, counts, counts]
    cases h : w.ring <;> rw [h] at hslot <;> simp <;> omega
  · rw [counts]
    split <;> omega
  · rw [counts]
    split <;> omega
  · cases hp.symm.trans hq
    exact ⟨hvalid, by omega⟩
  · rw [show s.engine.params = none from hq] at hp
    cases hp

/-- Engine control changed with the parameters kept and no new STARTING. -/
theorem SlotAccounting.setEngine {s : State} (hs : SlotAccounting s) {e : EngineControl}
    (hparams : e.params = s.engine.params)
    (hstate : e.state = .starting → s.engine.state = .starting) : SlotAccounting (s.setEngine e) :=
  hs.of_takes rfl (fun _ => rfl) hparams hstate

theorem SlotAccounting.countDiscarded {s : State} (hs : SlotAccounting s) :
    SlotAccounting s.countDiscarded := by
  unfold State.countDiscarded
  split
  · exact hs
  · exact hs.setEngine rfl id

/-- The setup outcome opens a session with every slot free (R190). -/
theorem SlotAccounting.setupOutcome {s : State} (hs : SlotAccounting s)
    (hstarting : s.engine.state = .starting) (result : BusRead (BitVec 512)) :
    SlotAccounting (s.setupOutcome result) := by
  obtain ⟨htotal, hprint, himage, hwrite, -, hnone, hsession⟩ := id hs
  obtain ⟨hzero, hall⟩ := hnone (hsession hstarting)
  have stopped (code : Nat) : SlotAccounting ((s.setEngine { s.engine with
      state := .stopped, pendingStop := false, setupFetch := .idle, faultCode := code }).setCause
      .setupDone) := hs.setEngine rfl (by rintro ⟨⟩)
  unfold State.setupOutcome
  dsimp only
  split
  · exact stopped _
  · next d =>
    split
    · next hopens =>
      refine SlotAccounting.checkOverrun (SlotAccounting.checkOverrun ?_ _ _) _ _
      refine ⟨htotal, hprint, himage, hwrite, ?_, by rintro ⟨⟩, by rintro ⟨⟩⟩
      rintro _ ⟨⟩
      obtain ⟨-, -, -, -, -, -, hcode⟩ := (readSetupBlock d).faultCode_iff
      obtain ⟨-, -, hsizes, -⟩ := hcode.1 hopens.2
      rw [SetupParams.sizesValid, Bool.not_eq_false, Bool.and_eq_true] at hsizes
      refine ⟨hsizes.2, ?_⟩
      change s.completion.reserved + s.unconsumed ≤ _
      omega
    · exact stopped _

/-- The slot accounting of a session just cleared: nothing is held. -/
theorem SlotAccounting.of_initial {s : State}
    (hrings : s.rings = ⟨RingRecord.initial, RingRecord.initial⟩)
    (hcompletion : s.completion = CompletionUnit.initial) (hparams : s.engine.params = none) :
    SlotAccounting s := by
  unfold SlotAccounting State.ringSlots State.unconsumed
  rw [hrings, hcompletion, hparams]
  exact ⟨rfl, by decide, by decide, by rintro _ ⟨⟩, by rintro _ ⟨⟩, fun _ => ⟨rfl, rfl⟩, fun _ => rfl⟩

theorem SlotAccounting.trimFlush {s : State} (hs : SlotAccounting s) (r : Ring) :
    SlotAccounting (s.trimFlush r) := by
  unfold State.trimFlush
  dsimp only
  split
  · split_ifs
    · exact hs.setRing rfl
    · exact hs.setRing rfl
    · exact hs
  all_goals exact hs

/-- Every effect keeps the slot accounting. -/
theorem Effect.slots {s u : State} (hs : SlotAccounting s) (h : Effect s u) : SlotAccounting u := by
  cases h with
  | idle | refused | setupWrite v | ienWrite v => exact hs
  | job hjob =>
    obtain e | ⟨r, i, res, e⟩ := hjob.control
    · exact hs.of_control e
    · exact (hs.finishRetire r i res).of_control e
  | start | engineReset => exact .of_initial rfl rfl rfl
  | stopPending => exact hs.setEngine rfl id
  | stop =>
    have drains : SlotAccounting (((s.setEngine { s.engine with state := .draining }).discardTake
        .print).discardTake .image) :=
      ((hs.setEngine (e := { s.engine with state := .draining }) rfl (by rintro ⟨⟩)).discardTake
        .print).discardTake .image
    unfold State.beginDrain
    dsimp only
    split
    · exact drains.setEngine rfl (by rintro ⟨⟩)
    · exact drains
  | abortPrint => exact ((hs.of_control s.abortLabels_control).abortStateLoad _).beginFlush _
  | abortImage => exact ((hs.keptButImageEntry s.abortImageJob_control).abortStateLoad _).beginFlush _
  | ringReset r => exact (hs.discardTake r).setRing rfl
  | producerStored r v => exact hs.setRing rfl
  | producerChecked r v =>
    unfold State.producerChecked
    split
    · exact ((hs.setRing (x := { s.rings.get r with producer := v }) rfl).checkOverrun _ r).trimFlush r
    · exact hs.setRing rfl
  | creadWrite v => exact hs.writeCread v
  | causeWrite bits =>
    unfold State.writeCause
    dsimp only
    split
    · split
      · exact SlotAccounting.coalesceClear (s := s.clearCauses bits) hs _
      · exact hs
    · exact hs
  | timerExpiry => exact hs.expireTimer
  | microsecond =>
    unfold State.countDown
    split
    · exact hs.setTimer _
    · exact hs.expireTimer
    · exact hs.expireTimer
    · exact hs
  | setupFetchStart =>
    unfold State.beginSetupFetch
    split
    · exact hs.setEngine rfl id
    · exact hs
  | setupOutcome result hstarting => exact hs.setupOutcome hstarting result
  | fetch p r hp hgranted => exact hs.beginFetch hp hgranted
  | contestedFetch p r hp hgranted =>
    exact SlotAccounting.setCompletion (s := s.beginFetch p r) (hs.beginFetch hp hgranted) rfl rfl
      le_rfl hs.queued
  | fetchEnd r a marked result htake => exact hs.endFetch (by rw [htake]; rfl) marked result
  | heldLabel d htake => exact hs.takeLabel (by rw [htake]; rfl) d _
  | loadEnd r ld result => exact hs.endLoad r ld result
  | writeStart p => exact hs.choosePort p
  | posted p w hp hw => exact hs.post hp hw
  | recordLost p w =>
    have freed : SlotAccounting s.endWrite := hs.setCompletion rfl rfl le_rfl (by rintro _ ⟨⟩)
    exact freed.countDiscarded.setEngine rfl (by rintro ⟨⟩)
  | transactionEnd => exact hs.setEngine rfl id
  | drained => exact hs.setEngine rfl (by rintro ⟨⟩)

/-- Settles O55, effect by effect. -/
theorem stepKeepsSlots : Obligations.StepKeepsSlots := by
  intro s t hs hstep
  exact step_keeps (P := SlotAccounting) (fun _ _ h => h) (fun _ _ h => h) (fun _ h => h)
    (fun _ => .of_initial rfl rfl rfl) (fun h => Effect.slots h) hs hstep

end Sys2Proof.Machine

/-! SUPPORT. Submission rings (R139, R142, R160, R162): what each operation does to a ring's indices and
flush boundary, and from that the invariant on rings (O56). -/

namespace Sys2Proof.Machine

/-! ### One ring -/

theorem RingRecord.within_of_faulted {x : RingRecord} {n : Nat} (h : x.state.faulted = true) :
    x.within n := by
  unfold RingRecord.within
  cases hx : x.state <;> simp_all [RingState.faulted]

theorem RingRecord.within_of_active {x : RingRecord} {n : Nat} (h : x.state = .active) :
    x.within n ↔ x.posted ≤ n := by simp [RingRecord.within, h]

theorem RingRecord.within_of_flushing {x : RingRecord} {n : Nat} {b : Half}
    (h : x.state = .flushing b) :
    x.within n ↔ x.posted ≤ n ∧ b ≠ x.consumer ∧ (b - x.consumer).toNat ≤ x.posted := by
  simp [RingRecord.within, h, indexBetween_iff, RingRecord.posted]

/-- A ring within its size and not FAULTED holds at most its size. -/
theorem RingRecord.posted_le {x : RingRecord} {n : Nat} (h : x.within n)
    (hfaulted : x.state.faulted = false) : x.posted ≤ n := by
  unfold RingRecord.within at h
  cases hx : x.state with
  | active => rw [hx] at h; exact h
  | flushing b => rw [hx] at h; exact h.1
  | faultedOverrun | faultedFetch => rw [hx] at hfaulted; cases hfaulted

/-- One descriptor less on the way to an index that lies beyond the consumer index. -/
theorem toNat_sub_succ {a c : Half} (h : a ≠ c) : (a - (c + 1#16)).toNat = (a - c).toNat - 1 := by
  have hpos : a.toNat ≠ c.toNat := fun e => h (BitVec.eq_of_toNat_eq e)
  simp only [BitVec.toNat_sub, BitVec.toNat_add, BitVec.toNat_ofNat]
  omega

theorem toNat_sub_pos {a c : Half} : 0 < (a - c).toNat ↔ a ≠ c := by
  constructor
  · rintro h rfl
    simp at h
  · intro h
    have hpos : a.toNat ≠ c.toNat := fun e => h (BitVec.eq_of_toNat_eq e)
    simp only [BitVec.toNat_sub]
    omega

theorem RingRecord.posted_pos {x : RingRecord} : 0 < x.posted ↔ x.producer ≠ x.consumer :=
  toNat_sub_pos

/-- A descriptor taken on an ACTIVE ring leaves one less posted. -/
theorem RingRecord.within_takeActive {x : RingRecord} {n : Nat} (h : x.within n)
    (hactive : x.state = .active) (hposted : x.posted ≠ 0) :
    ({ x with consumer := x.consumer + 1#16, take := .none } : RingRecord).within n := by
  have hne := RingRecord.posted_pos.1 (Nat.pos_of_ne_zero hposted)
  rw [RingRecord.within_of_active hactive] at h
  rw [RingRecord.within_of_active (x := { x with consumer := x.consumer + 1#16, take := .none })
    hactive]
  unfold RingRecord.posted at *
  rw [toNat_sub_succ hne]
  omega

/-- A descriptor taken as FLUSHED: the ring is ACTIVE again at the boundary, and else still short of it. -/
theorem RingRecord.within_takeFlushed {x : RingRecord} {n : Nat} {b : Half} (h : x.within n)
    (hflushing : x.state = .flushing b) :
    ({ x with
      consumer := x.consumer + 1#16
      take := .none
      state := if x.consumer + 1#16 = b then .active else .flushing b } : RingRecord).within n := by
  obtain ⟨hsize, hne, hbetween⟩ := (RingRecord.within_of_flushing hflushing).1 h
  have hpos := toNat_sub_pos.2 hne
  have hposted : 0 < x.posted := by omega
  have hproducer := RingRecord.posted_pos.1 hposted
  unfold RingRecord.posted at *
  split
  · rw [RingRecord.within_of_active rfl]
    unfold RingRecord.posted
    rw [toNat_sub_succ hproducer]
    omega
  · next hb =>
    rw [RingRecord.within_of_flushing rfl]
    unfold RingRecord.posted
    rw [toNat_sub_succ hproducer, toNat_sub_succ hne]
    exact ⟨by omega, fun e => hb e.symm, by omega⟩

/-- A flush up to the producer index of a ring with descriptors untaken. -/
theorem RingRecord.within_beginFlush {x : RingRecord} {n : Nat} (hsize : x.posted ≤ n)
    (hposted : 0 < x.posted) :
    ({ x with state := .flushing x.producer } : RingRecord).within n :=
  (RingRecord.within_of_flushing rfl).2 ⟨hsize, RingRecord.posted_pos.1 hposted, le_rfl⟩

/-! ### Both rings -/

/-- What a session's rings keep to: each within its size. -/
theorem RingsSound.within {s : State} (hs : RingsSound s) {p : SetupParams}
    (hp : s.engine.params = some p) (r : Ring) : (s.rings.get r).within (p.ringSize.get r) := by
  obtain ⟨hwithin, -⟩ := hs
  obtain ⟨hprint, himage⟩ := hwithin p hp
  cases r
  · exact hprint
  · exact himage

/-- A RUNNING engine has its parameters. -/
theorem RingsSound.params {s : State} (hs : RingsSound s) (hrunning : s.engine.state = .running) :
    ∃ p, s.engine.params = some p := by
  obtain ⟨-, -, -, h⟩ := hs
  exact Option.ne_none_iff_exists'.1 (h hrunning)

/-- The rings and the session are what the invariant reads. -/
theorem RingsSound.of_same {s u : State} (hs : RingsSound s) (hrings : u.rings = s.rings)
    (hengine : u.engine = s.engine) : RingsSound u := by
  unfold RingsSound
  rw [hrings, hengine]
  exact hs

theorem RingsSound.of_control {s u : State} (hs : RingsSound s) (h : u.control = s.control) :
    RingsSound u := hs.of_same (State.rings_of_control h) (State.engine_of_control h)

theorem RingsSound.keptButImageEntry {s u : State} (hs : RingsSound s)
    (h : s.keptButImageEntry u) : RingsSound u := by
  obtain h | ⟨i, res, h⟩ := h
  · exact hs.of_control h
  · exact RingsSound.of_control (s := s.finishRetire .image i res) hs h

/-- One ring's record replaced, in a session by one within the size, outside one by an ACTIVE one. -/
theorem RingsSound.setRing {s : State} (hs : RingsSound s) {r : Ring} {x : RingRecord}
    (hwithin : ∀ p, s.engine.params = some p → x.within (p.ringSize.get r))
    (hactive : s.engine.params = none → x.state = .active) : RingsSound (s.setRing r x) := by
  obtain ⟨hin, hout, hstarting, hrunning⟩ := hs
  refine ⟨fun p hp => ?_, fun hp => ?_, hstarting, hrunning⟩
  · obtain ⟨hprint, himage⟩ := hin p hp
    cases r
    · exact ⟨hwithin p hp, himage⟩
    · exact ⟨hprint, hwithin p hp⟩
  · obtain ⟨hprint, himage⟩ := hout hp
    cases r
    · exact ⟨hactive hp, himage⟩
    · exact ⟨hprint, hactive hp⟩

/-- A ring's record replaced in a session. -/
theorem RingsSound.setRing_session {s : State} (hs : RingsSound s) {p : SetupParams}
    (hp : s.engine.params = some p) {r : Ring} {x : RingRecord}
    (hwithin : x.within (p.ringSize.get r)) : RingsSound (s.setRing r x) :=
  hs.setRing (fun q hq => by cases hp.symm.trans hq; exact hwithin)
    (fun hq => by rw [hp] at hq; cases hq)

theorem RingsSound.active {s : State} (hs : RingsSound s) (hp : s.engine.params = none) (r : Ring) :
    (s.rings.get r).state = .active := by
  obtain ⟨-, hout, -⟩ := hs
  obtain ⟨hprint, himage⟩ := hout hp
  cases r
  · exact hprint
  · exact himage

theorem RingsSound.setTake {s : State} (hs : RingsSound s) (r : Ring) (t : TakeInFlight) :
    RingsSound (s.setTake r t) :=
  hs.setRing (fun _ hp => hs.within hp r) (fun hp => hs.active hp r)

theorem RingsSound.setCompletion {s : State} (hs : RingsSound s) (c : CompletionUnit) :
    RingsSound (s.setCompletion c) := hs

theorem RingsSound.setCause {s : State} (hs : RingsSound s) (c : Cause) :
    RingsSound (s.setCause c) := hs

theorem RingsSound.faultRing {s : State} (hs : RingsSound s) {p : SetupParams}
    (hp : s.engine.params = some p) {r : Ring} {x : RingState} (hx : x.faulted = true) :
    RingsSound (s.faultRing r x) :=
  (hs.setRing_session hp (RingRecord.within_of_faulted hx)).setCause .ringFault

theorem RingsSound.discardTake {s : State} (hs : RingsSound s) (r : Ring) :
    RingsSound (s.discardTake r) := by
  obtain ⟨-, h⟩ | ⟨a, d, -, h⟩ | ⟨b, -, h⟩ := s.discardTake_cases r <;> rw [h]
  · exact hs
  · exact hs.setTake r _
  · exact hs.setTake r _

theorem RingsSound.dropFetch {s : State} (hs : RingsSound s) (r : Ring) :
    RingsSound (s.dropFetch r) := hs.setTake r _

/-! ### Flushes and takes -/

/-- A descriptor taken as FLUSHED: its ring's record, and its entry (R161). -/
theorem State.takeFlushed_eq {s : State} {r : Ring} {b : Half}
    (h : (s.rings.get r).state = .flushing b) (d : BitVec 256) :
    s.takeFlushed r d = { s with
      rings := s.rings.set r { s.rings.get r with
        consumer := (s.rings.get r).consumer + 1#16
        take := .none
        state := if (s.rings.get r).consumer + 1#16 = b then .active else .flushing b }
      completion := { s.completion with
        retire := s.completion.retire.set r (s.completion.retire.get r ++
          [⟨(s.rings.get r).consumer, descriptorTag d, descriptorKind d,
            some (plainResults .flushed)⟩]) } } := by
  unfold State.takeFlushed State.takeFinished State.endFlushAtBoundary
  rw [State.takeProper_eq]
  simp only [PerRing.get_set_self, h]
  split
  · rw [State.setRingState, State.setRing, PerRing.get_set_self, PerRing.set_set]
  · rfl

theorem RingsSound.takeFlushed {s : State} (hs : RingsSound s) {p : SetupParams}
    (hp : s.engine.params = some p) {r : Ring} {b : Half}
    (hflushing : (s.rings.get r).state = .flushing b) (d : BitVec 256) :
    RingsSound (s.takeFlushed r d) := by
  rw [State.takeFlushed_eq hflushing]
  exact hs.setRing_session hp (RingRecord.within_takeFlushed (hs.within hp r) hflushing)

theorem RingsSound.beginFlush {s : State} (hs : RingsSound s) (r : Ring) :
    RingsSound (s.beginFlush r) := by
  have flushing (hrunning : s.engine.state = .running) (hposted : 0 < (s.rings.get r).posted)
      (hfaulted : (s.rings.get r).state.faulted = false) :
      RingsSound ((s.setRingState r (.flushing (s.rings.get r).producer)).flushHeld r) := by
    obtain ⟨p, hp⟩ := hs.params hrunning
    have hin := RingRecord.within_beginFlush (RingRecord.posted_le (hs.within hp r) hfaulted) hposted
    have ht : RingsSound (s.setRingState r (.flushing (s.rings.get r).producer)) :=
      hs.setRing_session hp hin
    unfold State.flushHeld
    split
    · next hstate _ => exact ht.takeFlushed hp hstate _
    · exact ht
  unfold State.beginFlush
  dsimp only
  split
  · next hrunning =>
    split
    · next hactive =>
      split
      · next hposted => exact flushing hrunning hposted (by rw [hactive]; rfl)
      · exact hs
    · next b hflushing =>
      obtain ⟨p, hp⟩ := hs.params hrunning
      obtain ⟨-, hne, hbetween⟩ := (RingRecord.within_of_flushing hflushing).1 (hs.within hp r)
      have := toNat_sub_pos.2 hne
      exact flushing hrunning (by omega) (by rw [hflushing]; rfl)
    all_goals exact hs
  · exact hs

theorem RingsSound.abortStateLoad {s : State} (hs : RingsSound s) (r : Ring) :
    RingsSound (s.abortStateLoad r) := by
  unfold State.abortStateLoad
  split
  · split <;> exact hs
  · exact hs

/-- The take proper on an ACTIVE ring with descriptors untaken. -/
theorem RingsSound.takeProper {s : State} (hs : RingsSound s) {p : SetupParams}
    (hp : s.engine.params = some p) {r : Ring} (hactive : (s.rings.get r).state = .active)
    (hposted : (s.rings.get r).posted ≠ 0) (k : Byte) (tag : Half) (res : Option Results) :
    RingsSound (s.takeProper r k tag res) :=
  hs.setRing_session hp (RingRecord.within_takeActive (hs.within hp r) hactive hposted)

theorem RingsSound.takeLabel {s : State} {d : BitVec 256} {f : LabelFields}
    (taken : RingsSound (s.takeProper .print (descriptorKind d) (descriptorTag d) none)) :
    RingsSound (s.takeLabel d f) := by
  unfold State.takeLabel
  dsimp only
  split
  · exact taken.of_control (by simp)
  · exact taken

theorem RingsSound.takeImage {s : State} {d : BitVec 256} {f : ImageFields}
    (taken : RingsSound (s.takeProper .image (descriptorKind d) (descriptorTag d) none)) :
    RingsSound (s.takeImage d f) := by
  unfold State.takeImage
  dsimp only
  split
  · exact taken.of_control (by simp)
  · exact taken

theorem RingsSound.takeChecked {s : State} (hs : RingsSound s) {p : SetupParams}
    (hp : s.engine.params = some p) {r : Ring} (hactive : (s.rings.get r).state = .active)
    (hposted : (s.rings.get r).posted ≠ 0) (d : BitVec 256) : RingsSound (s.takeChecked r d) := by
  have taken := hs.takeProper hp hactive hposted (descriptorKind d) (descriptorTag d)
  obtain ⟨hlabel, himage⟩ := checkDescriptor_ring r d
  unfold State.takeChecked
  split
  · exact taken _
  · exact taken _
  · next f hf =>
    cases hlabel f hf
    split
    · exact (taken none).takeLabel
    · exact hs.setTake _ _
  · next f hf =>
    cases himage f hf
    exact (taken none).takeImage
  · exact taken none
  · exact taken _

theorem State.fetchStale_posted {s : State} {r : Ring} (h : s.fetchStale r = false) :
    (s.rings.get r).posted ≠ 0 := by
  simp only [State.fetchStale, Bool.or_eq_false_iff, decide_eq_false_iff_not] at h
  exact h.1

theorem RingsSound.endFetch {s : State} (hs : RingsSound s) (r : Ring) (marked : Bool)
    (result : BusRead (BitVec 256)) : RingsSound (s.endFetch r marked result) := by
  have running (h : s.fetchDiscarded r marked = false) : ∃ p, s.engine.params = some p := by
    obtain ⟨-, hrunning, -⟩ := (s.fetchDiscarded_eq_false_iff r marked).1 h
    exact hs.params hrunning
  obtain ⟨-, h⟩ | ⟨hkept, -, h⟩ | ⟨hkept, d, -, ⟨-, h⟩ | ⟨hfresh, hactive, h⟩ |
    ⟨-, ⟨b, hflushing⟩, h⟩⟩ := s.endFetch_cases r marked result <;> rw [h]
  · exact hs.dropFetch r
  · obtain ⟨p, hp⟩ := running hkept
    exact (hs.dropFetch r).faultRing hp rfl
  · exact hs.dropFetch r
  · obtain ⟨p, hp⟩ := running hkept
    exact hs.takeChecked hp hactive (State.fetchStale_posted hfresh) d
  · obtain ⟨p, hp⟩ := running hkept
    exact hs.takeFlushed hp hflushing d

/-! ### Producer writes and the setup outcome -/

/-- With the other ring and the session sound, the overrun check makes a ring sound: it is within its size
or FAULTED (R142). -/
theorem State.checkOverrun_posted (s : State) (p : SetupParams) (r : Ring) :
    ((s.checkOverrun p r).rings.get r).state.faulted = true ∨
    ((s.rings.get r).state.faulted = false ∧ (s.rings.get r).posted ≤ p.ringSize.get r ∧
      s.checkOverrun p r = s) := by
  unfold State.checkOverrun
  split
  · next h => exact .inl h
  · next h =>
    split
    · refine .inl ?_
      obtain ⟨-, h⟩ | ⟨a, d, -, h⟩ | ⟨b, -, h⟩ :=
        (s.faultRing r .faultedOverrun).discardTake_cases r <;> rw [h] <;>
        simp [State.faultRing, State.setRingState, State.setCause, State.setTake,
          State.releaseSlot_eq, RingState.faulted]
    · next hsize => exact .inr ⟨by simpa using h, by omega, rfl⟩

/-- The overrun check leaves the other ring as it is. -/
theorem State.checkOverrun_other (s : State) (p : SetupParams) (r : Ring) :
    (s.checkOverrun p r).rings.get r.other = s.rings.get r.other := by
  obtain h | ⟨-, -, h⟩ := s.checkOverrun_cases p r <;> rw [h]
  obtain ⟨-, h⟩ | ⟨a, d, -, h⟩ | ⟨b, -, h⟩ :=
    (s.faultRing r .faultedOverrun).discardTake_cases r <;> rw [h] <;>
    simp [State.faultRing, State.setRingState, State.setCause, State.setTake, State.releaseSlot_eq]

/-- One ring of a session changed, and it alone. -/
theorem RingsSound.of_ring {s u : State} (hs : RingsSound s) {p : SetupParams}
    (hp : s.engine.params = some p) (r : Ring) (hengine : u.engine = s.engine)
    (hother : u.rings.get r.other = s.rings.get r.other)
    (hwithin : (u.rings.get r).within (p.ringSize.get r)) : RingsSound u := by
  refine (hs.setRing_session hp hwithin).of_same (PerRing.ext_get fun q => ?_) hengine
  rw [State.setRing_rings, PerRing.get_set]
  split
  · next h => rw [h]
  · next h =>
    have hq : q = r.other := by
      revert h
      cases q <;> cases r <;> decide
    rw [hq, hother]

/-- After a producer write within the size the flush boundary lies between the indices (R162). -/
theorem RingRecord.within_trimFlush {s t : State} {r : Ring} {n : Nat} {v : Half}
    (hs : (s.rings.get r).within n) (ht : t = s.storeProducer r v)
    (hfaulted : (t.rings.get r).state.faulted = false) (hsize : (t.rings.get r).posted ≤ n) :
    ((t.trimFlush r).rings.get r).within n := by
  have hconsumer : (t.rings.get r).consumer = (s.rings.get r).consumer := by
    rw [ht, State.storeProducer, State.setRing_rings, PerRing.get_set_self]
  have hstate : (t.rings.get r).state = (s.rings.get r).state := by
    rw [ht, State.storeProducer, State.setRing_rings, PerRing.get_set_self]
  unfold State.trimFlush
  dsimp only
  cases hx : (t.rings.get r).state with
  | faultedOverrun | faultedFetch => rw [hx] at hfaulted; cases hfaulted
  | active => exact (RingRecord.within_of_active hx).2 hsize
  | flushing b =>
    obtain ⟨-, hne, -⟩ := (RingRecord.within_of_flushing (hstate.symm.trans hx)).1 hs
    dsimp only
    split_ifs with hend hbetween
    · rw [State.setRingState, State.setRing_rings, PerRing.get_set_self]
      exact (RingRecord.within_of_active rfl).2 hsize
    · rw [State.setRingState, State.setRing_rings, PerRing.get_set_self]
      exact RingRecord.within_beginFlush hsize (RingRecord.posted_pos.2 hend)
    · rw [indexBetween_iff, Nat.not_le] at hbetween
      rw [← hconsumer] at hne
      exact (RingRecord.within_of_flushing hx).2 ⟨hsize, hne, le_of_lt hbetween⟩

/-- The end of a flush leaves the other ring and a FAULTED one as they are. -/
theorem State.trimFlush_frame (s : State) (r : Ring) :
    (s.trimFlush r).engine = s.engine ∧
    (s.trimFlush r).rings.get r.other = s.rings.get r.other ∧
    ((s.rings.get r).state.faulted = true → s.trimFlush r = s) := by
  unfold State.trimFlush
  dsimp only
  cases hx : (s.rings.get r).state with
  | active => exact ⟨rfl, rfl, fun _ => rfl⟩
  | faultedOverrun | faultedFetch => exact ⟨rfl, rfl, fun _ => rfl⟩
  | flushing b =>
    refine ⟨?_, ?_, by rintro ⟨⟩⟩
    · dsimp only
      split_ifs <;> rfl
    · dsimp only
      split_ifs <;> simp [State.setRingState]

theorem RingsSound.producerChecked {s : State} (hs : RingsSound s) (r : Ring) (v : Half) :
    RingsSound (s.producerChecked r v) := by
  unfold State.producerChecked
  split
  · next p hp =>
    set t := s.storeProducer r v with ht
    have hother : t.rings.get r.other = s.rings.get r.other := by simp [ht, State.storeProducer]
    obtain ⟨hengine, hkept, hstays⟩ := (t.checkOverrun p r).trimFlush_frame r
    refine hs.of_ring hp r ?_ ?_ ?_
    · rw [hengine, State.checkOverrun_engine]
      rfl
    · rw [hkept, State.checkOverrun_other, hother]
    · obtain hfaulted | ⟨hfaulted, hsize, h⟩ := t.checkOverrun_posted p r
      · rw [hstays hfaulted]
        exact RingRecord.within_of_faulted hfaulted
      · rw [h]
        exact RingRecord.within_trimFlush (hs.within hp r) ht hfaulted hsize
  · next hp =>
    exact hs.setRing (fun p h => by rw [hp] at h; cases h) (fun h => hs.active h r)

/-- The overrun check of an ACTIVE ring leaves it within its size. -/
theorem State.checkOverrun_within {s : State} {p : SetupParams} {r : Ring}
    (hactive : (s.rings.get r).state = .active) :
    ((s.checkOverrun p r).rings.get r).within (p.ringSize.get r) := by
  obtain hfaulted | ⟨-, hsize, h⟩ := s.checkOverrun_posted p r
  · exact RingRecord.within_of_faulted hfaulted
  · rw [h]
    exact (RingRecord.within_of_active hactive).2 hsize

/-- Engine control changed with the parameters kept, and no new STARTING or RUNNING. -/
theorem RingsSound.setEngine {s : State} (hs : RingsSound s) {e : EngineControl}
    (hparams : e.params = s.engine.params)
    (hstarting : e.state = .starting → s.engine.state = .starting)
    (hrunning : e.state = .running → s.engine.state = .running) : RingsSound (s.setEngine e) := by
  obtain ⟨hin, hout, hnone, hsome⟩ := hs
  refine ⟨?_, ?_, ?_, ?_⟩
  · rw [State.setEngine_engine, hparams]; exact hin
  · rw [State.setEngine_engine, hparams]; exact hout
  · rw [State.setEngine_engine, hparams]; exact fun h => hnone (hstarting h)
  · rw [State.setEngine_engine, hparams]; exact fun h => hsome (hrunning h)

theorem RingsSound.setupOutcome {s : State} (hs : RingsSound s)
    (hstarting : s.engine.state = .starting) (result : BusRead (BitVec 512)) :
    RingsSound (s.setupOutcome result) := by
  have stopped (code : Nat) : RingsSound ((s.setEngine { s.engine with
      state := .stopped, pendingStop := false, setupFetch := .idle, faultCode := code }).setCause
      .setupDone) := hs.setEngine rfl (by rintro ⟨⟩) (by rintro ⟨⟩)
  unfold State.setupOutcome
  dsimp only
  split
  · exact stopped _
  · next d =>
    split
    · obtain ⟨-, hout, hnone, -⟩ := hs
      obtain ⟨hprint, himage⟩ := hout (hnone hstarting)
      set p := readSetupBlock d
      set t := (s.setEngine { s.engine with
        state := .running, params := some p, setupFetch := .idle, faultCode := 0 }).setCause
        .setupDone with ht
      have hengine : ((t.checkOverrun p .print).checkOverrun p .image).engine = t.engine := by
        rw [State.checkOverrun_engine, State.checkOverrun_engine]
      have hfirst : (t.checkOverrun p .print).rings.image.state = .active := by
        have h : (t.checkOverrun p .print).rings.image = t.rings.image :=
          t.checkOverrun_other p .print
        rw [h]
        exact himage
      have hlast : ((t.checkOverrun p .print).checkOverrun p .image).rings.print =
          (t.checkOverrun p .print).rings.print :=
        (t.checkOverrun p .print).checkOverrun_other p .image
      refine ⟨?_, ?_, ?_, ?_⟩ <;> rw [hengine]
      · rintro _ ⟨⟩
        refine ⟨?_, State.checkOverrun_within (r := .image) hfirst⟩
        rw [hlast]
        exact State.checkOverrun_within (r := .print) hprint
      · rintro ⟨⟩
      · rintro ⟨⟩
      · exact fun _ => by rintro ⟨⟩
    · exact stopped _

/-! ### Ring resets, loads and the completion unit -/

theorem RingsSound.resetRing {s : State} (hs : RingsSound s) (r : Ring) :
    RingsSound (s.resetRing r) := by
  refine (hs.discardTake r).setRing (fun p _ => ?_) fun _ => rfl
  refine (RingRecord.within_of_active rfl).2 ?_
  simp [RingRecord.posted]

theorem RingsSound.endLoad {s : State} (hs : RingsSound s) (r : Ring) (ld : StateLoad)
    (result : BusRead (BitVec 384)) : RingsSound (s.endLoad r ld result) := by
  have hs' : RingsSound (s.setLoad r none) := hs
  have dropped : RingsSound ((s.setLoad r none).loadDropped r ld) := by
    unfold State.loadDropped
    split
    · exact hs'
    · exact hs'.keptButImageEntry (State.imageLeaves_control rfl)
    · exact hs'
  have failed (st : Status) : RingsSound ((s.setLoad r none).loadFailed r ld st) := by
    unfold State.loadFailed
    split
    · exact hs'.of_control (by simp)
    · exact hs'.keptButImageEntry (State.imageLeaves_control (by simp))
    · exact hs'
  have applied (d : BitVec 384) : RingsSound ((s.setLoad r none).loadApplied r ld d) := by
    have ht : RingsSound ((s.setLoad r none).setRenderState r
      (applyStateRecord d ((s.setLoad r none).renderStates.get r))) := hs
    unfold State.loadApplied
    dsimp only
    split
    · exact ht.of_control (by simp)
    · exact ht.of_control (by simp)
    · exact ht
  obtain ⟨-, h⟩ | ⟨-, st, h⟩ | ⟨-, d, -, -, h⟩ := s.endLoad_cases r ld result <;> rw [h]
  · exact dropped
  · exact failed st
  · exact applied d

/-- What a coalescing rule, a choice of the port or a consumer write changes: causes and the completion
unit. -/
theorem RingsSound.coalescePosting {s : State} (hs : RingsSound s) (p : SetupParams) :
    RingsSound (s.coalescePosting p) := by
  unfold State.coalescePosting
  split_ifs <;> exact hs

theorem RingsSound.coalesceClear {s : State} (hs : RingsSound s) (p : SetupParams) :
    RingsSound (s.coalesceClear p) := by
  unfold State.coalesceClear
  split_ifs <;> exact hs

theorem RingsSound.expireTimer {s : State} (hs : RingsSound s) : RingsSound s.expireTimer := by
  unfold State.expireTimer
  split <;> exact hs

theorem RingsSound.choosePort {s : State} (hs : RingsSound s) (p : SetupParams) :
    RingsSound (s.choosePort p) := by
  unfold State.choosePort
  split
  · exact hs
  · exact hs
  · exact hs
  · split <;> exact hs

theorem RingsSound.countDiscarded {s : State} (hs : RingsSound s) : RingsSound s.countDiscarded := by
  unfold State.countDiscarded
  split
  · exact hs
  · exact hs.setEngine rfl id id

/-- A session just cleared, with no parameters and not RUNNING. -/
theorem RingsSound.of_initial {s : State}
    (hrings : s.rings = ⟨RingRecord.initial, RingRecord.initial⟩) (hparams : s.engine.params = none)
    (hstate : s.engine.state ≠ .running) : RingsSound s := by
  unfold RingsSound
  rw [hrings, hparams]
  exact ⟨by rintro _ ⟨⟩, fun _ => ⟨rfl, rfl⟩, fun _ => rfl, fun h => absurd h hstate⟩

/-- Every effect keeps the rings sound. -/
theorem Effect.rings {s u : State} (hs : RingsSound s) (h : Effect s u) : RingsSound u := by
  cases h with
  | idle | refused | setupWrite v | ienWrite v => exact hs
  | job hjob =>
    obtain e | ⟨r, i, res, e⟩ := hjob.control
    · exact hs.of_control e
    · exact RingsSound.of_control (s := s.finishRetire r i res) hs e
  | start | engineReset => exact .of_initial rfl rfl (by rintro ⟨⟩)
  | stopPending => exact hs.setEngine rfl id id
  | stop =>
    have drains : RingsSound (((s.setEngine { s.engine with state := .draining }).discardTake
        .print).discardTake .image) :=
      ((hs.setEngine (e := { s.engine with state := .draining }) rfl (by rintro ⟨⟩)
        (by rintro ⟨⟩)).discardTake .print).discardTake .image
    unfold State.beginDrain
    dsimp only
    split
    · exact drains.setEngine rfl (by rintro ⟨⟩) (by rintro ⟨⟩)
    · exact drains
  | abortPrint => exact ((hs.of_control s.abortLabels_control).abortStateLoad _).beginFlush _
  | abortImage => exact ((hs.keptButImageEntry s.abortImageJob_control).abortStateLoad _).beginFlush _
  | ringReset r => exact hs.resetRing r
  | producerStored r v hstarting =>
    obtain ⟨-, -, hnone, -⟩ := id hs
    have hp := hnone hstarting
    exact hs.setRing (fun p h => by rw [hp] at h; cases h) (fun h => hs.active h r)
  | producerChecked r v => exact hs.producerChecked r v
  | creadWrite v =>
    unfold State.writeCread
    dsimp only
    split_ifs <;> exact hs
  | causeWrite bits =>
    unfold State.writeCause
    dsimp only
    split
    · split
      · exact RingsSound.coalesceClear (s := s.clearCauses bits) hs _
      · exact hs
    · exact hs
  | timerExpiry => exact hs.expireTimer
  | microsecond =>
    unfold State.countDown
    split
    · exact hs
    · exact hs.expireTimer
    · exact hs.expireTimer
    · exact hs
  | setupFetchStart =>
    unfold State.beginSetupFetch
    split
    · exact hs.setEngine rfl id id
    · exact hs
  | setupOutcome result hstarting => exact hs.setupOutcome hstarting result
  | fetch p r => exact hs.setTake r _
  | contestedFetch p r => exact hs.setTake r _
  | fetchEnd r a marked result => exact hs.endFetch r marked result
  | heldLabel d htake hrunning hroom hactive hposted =>
    obtain ⟨p, hp⟩ := hs.params hrunning
    exact (hs.takeProper hp (r := .print) hactive (Nat.ne_of_gt hposted) _ _ _).takeLabel
  | loadEnd r ld result => exact hs.endLoad r ld result
  | writeStart p => exact hs.choosePort p
  | posted p w => exact RingsSound.coalescePosting (hs.setCompletion _) p
  | recordLost p w =>
    exact (RingsSound.countDiscarded (s := s.endWrite) hs).setEngine rfl (by rintro ⟨⟩) (by rintro ⟨⟩)
  | transactionEnd => exact hs.setEngine rfl id id
  | drained => exact hs.setEngine rfl (by rintro ⟨⟩) (by rintro ⟨⟩)

/-- Settles O56, effect by effect. -/
theorem stepKeepsRings : Obligations.StepKeepsRings := by
  intro s t hs hstep
  exact step_keeps (P := RingsSound) (fun _ _ h => h) (fun _ _ h => h) (fun _ h => h)
    (fun _ => .of_initial rfl rfl (by rintro ⟨⟩)) (fun h => Effect.rings h) hs hstep

end Sys2Proof.Machine

/-! SUPPORT. Take order and the rows of the labels (R94, R121, R152, R170 to R173): what each operation does
to the retire queues and to a label's rows, and from that the invariant on labels (O57). -/

namespace Sys2Proof.Machine

/-! ### The indices below a consumer index -/

/-- A descriptor taken puts its index behind those below it. -/
theorem indicesBelow_succ (c : Half) (n : Nat) :
    indicesBelow (c + 1#16) (n + 1) = indicesBelow c n ++ [c] := by
  unfold indicesBelow
  rw [List.range_succ, List.map_append]
  congr 1
  · refine List.map_congr_left fun k hk => ?_
    rw [List.mem_range] at hk
    rw [show n + 1 - k = (n - k) + 1 by omega, BitVec.ofNat_add]
    ring
  · simp

/-- Without the oldest, the indices below are one less. -/
theorem indicesBelow_tail (c : Half) (n : Nat) : (indicesBelow c n).tail = indicesBelow c (n - 1) := by
  cases n with
  | zero => rfl
  | succ n =>
    unfold indicesBelow
    rw [List.range_succ_eq_map, List.map_cons, List.tail_cons, List.map_map]
    refine List.map_congr_left fun k _ => ?_
    simp only [Function.comp, Nat.add_sub_cancel]
    rw [show n + 1 - k.succ = n - k by omega]

/-- The consumer index is not below itself. -/
theorem ne_of_mem_indicesBelow {c i : Half} {n : Nat} (hn : n < 65536) (h : i ∈ indicesBelow c n) :
    i ≠ c := by
  unfold indicesBelow at h
  obtain ⟨k, hk, rfl⟩ := List.mem_map.1 h
  rw [List.mem_range] at hk
  intro e
  have h1 := congrArg BitVec.toNat e
  simp only [BitVec.toNat_sub, BitVec.toNat_ofNat] at h1
  omega

/-! ### What the invariant reads -/

/-- What the invariant reads of a label: its ring index and its rows. -/
def LabelEntry.rows (l : LabelEntry) : Half × Nat × Nat × Nat × Nat × Bool :=
  (l.ringIndex, l.length, l.cursor, l.rowsSent, l.rowsPadded, l.report.warnings.padded)

theorem LabelEntry.ringIndex_of_rows {l m : LabelEntry} (h : m.rows = l.rows) :
    m.ringIndex = l.ringIndex := congrArg Prod.fst h

theorem LabelEntry.rowsSound_of_rows {l m : LabelEntry} (h : m.rows = l.rows) (hl : l.rowsSound) :
    m.rowsSound := by
  simp only [LabelEntry.rows, Prod.mk.injEq] at h
  obtain ⟨-, hlength, hcursor, hsent, hpadded, hwarning⟩ := h
  unfold LabelEntry.rowsSound
  rw [hlength, hcursor, hsent, hpadded, hwarning]
  exact hl

/-- The rows of all labels. -/
def State.labelRows (s : State) : List (Half × Nat × Nat × Nat × Nat × Bool) :=
  s.labels.map LabelEntry.rows

theorem State.mem_labels_of_labelRows {s u : State} (h : u.labelRows = s.labelRows) {m : LabelEntry}
    (hm : m ∈ u.labels) : ∃ l ∈ s.labels, m.rows = l.rows := by
  have : m.rows ∈ s.labelRows := h ▸ List.mem_map_of_mem hm
  obtain ⟨l, hl, e⟩ := List.mem_map.1 this
  exact ⟨l, hl, e.symm⟩

/-- What the invariant reads: the consumer indices, the retire queues and the write in flight, what the
PRINT load serves, and the labels' rows. -/
def State.ledger (s : State) : PerRing Half × PerRing (List RetireEntry) × Option CompletionWrite ×
    Option LoadJob × List (Half × Nat × Nat × Nat × Nat × Bool) :=
  (⟨s.rings.print.consumer, s.rings.image.consumer⟩, s.completion.retire, s.completion.write,
    s.loads.print.map StateLoad.job, s.labelRows)

theorem State.ledger_of_control {s u : State} (h : u.control = s.control)
    (hrows : u.labelRows = s.labelRows) : u.ledger = s.ledger := by
  simp only [State.ledger, State.rings_of_control h, State.completion_of_control h,
    State.loads_of_control h, hrows]

theorem LabelsSound.of_ledger {s u : State} (hs : LabelsSound s) (h : u.ledger = s.ledger) :
    LabelsSound u := by
  simp only [State.ledger, Prod.mk.injEq, PerRing.mk.injEq] at h
  obtain ⟨⟨hprint, himage⟩, hretire, hwrite, hload, hrows⟩ := h
  obtain ⟨horder, horder', hroom, hnodup, hlabels, hloads, hwritten⟩ := hs
  have indices : u.labels.map LabelEntry.ringIndex = s.labels.map LabelEntry.ringIndex := by
    have := congrArg (List.map Prod.fst) hrows
    rwa [State.labelRows, State.labelRows, List.map_map, List.map_map] at this
  have unfinished (i : Half) : u.unfinished i ↔ s.unfinished i := by
    unfold State.unfinished
    rw [hretire]
  refine ⟨?_, ?_, ?_, by rwa [indices], fun m hm => ?_, fun ld hld i hi => ?_, ?_⟩
  · unfold TakeOrder at *
    rw [hretire]
    exact (congrArg (indicesBelow · _) hprint) ▸ horder
  · unfold TakeOrder at *
    rw [hretire]
    exact (congrArg (indicesBelow · _) himage) ▸ horder'
  · have := congrArg List.length indices
    rw [List.length_map, List.length_map] at this
    omega
  · obtain ⟨l, hl, e⟩ := State.mem_labels_of_labelRows hrows hm
    obtain ⟨hsound, hopen⟩ := hlabels l hl
    rw [unfinished, LabelEntry.ringIndex_of_rows e]
    exact ⟨LabelEntry.rowsSound_of_rows e hsound, hopen⟩
  · have hmem : LoadJob.state i ∈ s.loads.print.map StateLoad.job := by
      rw [← hload, ← hi]
      exact Option.mem_map_of_mem _ hld
    obtain ⟨ld', hld', hi'⟩ := Option.mem_map.1 hmem
    obtain ⟨hopen, hother⟩ := hloads ld' hld' i hi'
    refine ⟨(unfinished i).2 hopen, fun m hm => ?_⟩
    obtain ⟨l, hl, e⟩ := State.mem_labels_of_labelRows hrows hm
    rw [LabelEntry.ringIndex_of_rows e]
    exact hother l hl
  · rw [hwrite, hretire]
    exact hwritten

/-! ### The rows of the labels through the work on jobs -/

section Rows

variable (s : State)

/-- A change of a label that keeps its rows. -/
theorem State.updateLabel_labelRows (i : Half) {f : LabelEntry → LabelEntry}
    (hf : ∀ l, (f l).rows = l.rows) : (s.updateLabel i f).labelRows = s.labelRows := by
  unfold State.labelRows State.updateLabel
  rw [State.setLabels_labels, List.map_map]
  refine List.map_congr_left fun l _ => ?_
  unfold Function.comp updateEntry
  split
  · exact hf l
  · rfl

/-- A change of a report that keeps its PADDED warning. -/
theorem State.updateReport_labelRows (o : Owner) {f : JobReport → JobReport}
    (hf : ∀ x, (f x).warnings.padded = x.warnings.padded) :
    (s.updateReport o f).labelRows = s.labelRows := by
  cases o with
  | label i => exact s.updateLabel_labelRows i fun l => by simp [LabelEntry.rows, hf]
  | image => rfl

@[simp] theorem State.setHead_labelRows (h : HeadPort) : (s.setHead h).labelRows = s.labelRows := rfl
@[simp] theorem State.setBand_labelRows (i : BufferId) (x : BandBuffer) :
    (s.setBand i x).labelRows = s.labelRows := rfl
@[simp] theorem State.setPrintQueue_labelRows (q : List BufferId) :
    (s.setPrintQueue q).labelRows = s.labelRows := rfl
@[simp] theorem State.setRender_labelRows (r : Option RenderRecord) :
    (s.setRender r).labelRows = s.labelRows := rfl
@[simp] theorem State.setWalker_labelRows (r : Ring) (x : WalkerContext) :
    (s.setWalker r x).labelRows = s.labelRows := rfl
@[simp] theorem State.setTable_labelRows (r : Ring) (x : List TableEntry) :
    (s.setTable r x).labelRows = s.labelRows := rfl
@[simp] theorem State.setImage_labelRows (j : Option ImageJob) :
    (s.setImage j).labelRows = s.labelRows := rfl
@[simp] theorem State.setLoad_labelRows (r : Ring) (x : Option StateLoad) :
    (s.setLoad r x).labelRows = s.labelRows := rfl
@[simp] theorem State.setRenderState_labelRows (r : Ring) (x : RenderState) :
    (s.setRenderState r x).labelRows = s.labelRows := rfl
@[simp] theorem State.finishRetire_labelRows (r : Ring) (i : Half) (res : Results) :
    (s.finishRetire r i res).labelRows = s.labelRows := rfl
@[simp] theorem State.takeProper_labelRows (r : Ring) (k : Byte) (tag : Half)
    (res : Option Results) : (s.takeProper r k tag res).labelRows = s.labelRows := rfl
@[simp] theorem State.takeBack_labelRows (o : Owner) : (s.takeBack o).labelRows = s.labelRows := rfl
@[simp] theorem State.freePassed_labelRows (i : Half) (n : Nat) :
    (s.freePassed i n).labelRows = s.labelRows := rfl
@[simp] theorem State.freeBand_labelRows (i : BufferId) : (s.freeBand i).labelRows = s.labelRows :=
  rfl
@[simp] theorem State.emptyWalker_labelRows (r : Ring) : (s.emptyWalker r).labelRows = s.labelRows :=
  rfl
@[simp] theorem State.setCutPending_labelRows : s.setCutPending.labelRows = s.labelRows := rfl
@[simp] theorem State.updateImage_labelRows (f : ImageJob → ImageJob) :
    (s.updateImage f).labelRows = s.labelRows := rfl

@[simp] theorem State.setRenderStatus_labelRows (i : Half) (x : RenderStatus) :
    (s.setRenderStatus i x).labelRows = s.labelRows := s.updateLabel_labelRows i fun _ => rfl

@[simp] theorem State.setUpWalker_labelRows (r : Ring) (o : Owner) (a : Word) (n : Nat) :
    (s.setUpWalker r o a n).labelRows = s.labelRows :=
  State.updateReport_labelRows _ o fun _ => rfl

@[simp] theorem State.dropPendingPad_labelRows (i : Half) :
    (s.dropPendingPad i).labelRows = s.labelRows := by
  obtain ⟨_, h⟩ := s.dropPendingPad_frame i
  rw [h]; rfl

@[simp] theorem State.stopLabelRender_labelRows (l : LabelEntry) :
    (s.stopLabelRender l).labelRows = s.labelRows := by
  unfold State.stopLabelRender
  split
  · rfl
  · split
    · simp
    · rfl

@[simp] theorem State.endLabel_labelRows (i : Half) (st : Status) (fi : Half) :
    (s.endLabel i st fi).labelRows = s.labelRows := by
  unfold State.endLabel
  split
  · rfl
  · split
    · rfl
    · simp only [State.stopLabelRender_labelRows, State.dropPendingPad_labelRows,
        State.takeBack_labelRows]
      exact s.updateLabel_labelRows i fun _ => rfl

@[simp] theorem State.endImage_labelRows (st : Status) (fi : Half) :
    (s.endImage st fi).labelRows = s.labelRows := by
  obtain ⟨_, _, _, _, h⟩ := s.endImage_frame st fi
  rw [h]; rfl

@[simp] theorem State.endJob_labelRows (o : Owner) (st : Status) (fi : Half) :
    (s.endJob o st fi).labelRows = s.labelRows := by
  cases o
  · exact s.endLabel_labelRows _ _ _
  · exact s.endImage_labelRows _ _

@[simp] theorem State.abortLabels_labelRows : s.abortLabels.labelRows = s.labelRows := by
  have fold (ls : List LabelEntry) : ∀ t : State,
      (ls.foldl (fun t l => t.endLabel l.ringIndex .aborted noObject) t).labelRows =
        t.labelRows := by
    induction ls with
    | nil => exact fun _ => rfl
    | cons l ls ih => exact fun t => (ih _).trans (t.endLabel_labelRows _ _ _)
  exact fold s.labels s

@[simp] theorem State.imageLeaves_labelRows : s.imageLeaves.labelRows = s.labelRows := by
  unfold State.imageLeaves
  split <;> rfl

@[simp] theorem State.abortImageJob_labelRows : s.abortImageJob.labelRows = s.labelRows := by
  unfold State.abortImageJob
  split
  · rfl
  · split
    · rfl
    · dsimp only
      split
      · simp
      · simp
      · simp
      · simp
      · split <;> simp [State.dropImage]

@[simp] theorem State.startHead_labelRows (l : LabelEntry) : (s.startHead l).labelRows = s.labelRows :=
  State.updateLabel_labelRows _ _ fun _ => rfl

@[simp] theorem State.freeDelivered_labelRows (i : Half) :
    (s.freeDelivered i).labelRows = s.labelRows := by
  unfold State.freeDelivered
  split <;> simp

@[simp] theorem State.afterDelivery_labelRows (i : Half) :
    (s.afterDelivery i).labelRows = s.labelRows := by
  obtain ⟨q, -, -, h⟩ | ⟨-, ⟨l, -, -, -, h⟩ | ⟨-, h⟩⟩ := s.afterDelivery_cases i <;> rw [h]
  · rfl
  · exact s.endLabel_labelRows _ _ _

@[simp] theorem State.endDelivery_labelRows (p : SetupParams) (d : Delivery) :
    (s.endDelivery p d).labelRows = s.labelRows := by
  unfold State.endDelivery
  simp only [State.afterDelivery_labelRows, State.freeDelivered_labelRows]
  refine State.updateLabel_labelRows _ _ fun l => ?_
  unfold LabelEntry.feed
  split <;> rfl

@[simp] theorem State.endBurnMain_labelRows (p : SetupParams) (d : Delivery) :
    (s.endBurnMain p d).labelRows = s.labelRows := by
  unfold State.endBurnMain
  split <;> simp

@[simp] theorem State.faultRender_labelRows (r : RenderRecord) (st : Status) (k : Nat) :
    (s.faultRender r st k).labelRows = s.labelRows := by simp [State.faultRender]

@[simp] theorem State.keepCanvas_labelRows (r : RenderRecord) (c : Canvas) :
    (s.keepCanvas r c).labelRows = s.labelRows :=
  State.updateReport_labelRows _ _ fun _ => rfl

@[simp] theorem State.applyPainting_labelRows (r : RenderRecord) (t : TableResult) :
    (s.applyPainting r t).labelRows = s.labelRows := by cases t <;> simp [State.applyPainting]

@[simp] theorem State.startPaint_labelRows (p : SetupParams) (r : RenderRecord) :
    (s.startPaint p r).labelRows = s.labelRows := s.applyPainting_labelRows _ _

@[simp] theorem State.nextObject_labelRows (p : SetupParams) (r : RenderRecord) :
    (s.nextObject p r).labelRows = s.labelRows := by
  unfold State.nextObject
  dsimp only
  split <;> simp

@[simp] theorem State.considerObject_labelRows (p : SetupParams) (r : RenderRecord)
    (o : PendingObject) : (s.considerObject p r o).labelRows = s.labelRows := by
  have admitted (t : State) (late : Bool) :
      (t.updateReport r.job (JobReport.admission late)).labelRows = t.labelRows :=
    State.updateReport_labelRows _ _ fun _ => rfl
  unfold State.considerObject
  dsimp only
  split_ifs <;> simp [admitted, State.setPendingObject]

@[simp] theorem State.startAdmission_labelRows (p : SetupParams) (r : RenderRecord) :
    (s.startAdmission p r).labelRows = s.labelRows := by
  unfold State.startAdmission
  split <;> simp

@[simp] theorem State.recordRead_labelRows (p : SetupParams) (r : RenderRecord) (d : BitVec 256) :
    (s.recordRead p r d).labelRows = s.labelRows := by
  unfold State.recordRead
  dsimp only
  split <;> simp

@[simp] theorem State.grant_labelRows (p : SetupParams) (side : Ring) (o : Owner) (i : BufferId)
    (k rows : Nat) : (s.grant p side o i k rows).labelRows = s.labelRows := by
  obtain ⟨-, h⟩ | ⟨-, h, -⟩ := s.grant_cases p side o i k rows <;> rw [h]
  · rfl
  · exact State.startAdmission_labelRows _ p _

@[simp] theorem State.arbitrate_labelRows (p : SetupParams) :
    (s.arbitrate p).labelRows = s.labelRows := by
  unfold State.arbitrate
  split
  · rfl
  · split
    · simp
    · split <;> simp

@[simp] theorem State.endRecordFetch_labelRows (p : SetupParams) (r : RenderRecord)
    (result : BusRead (BitVec 256)) : (s.endRecordFetch p r result).labelRows = s.labelRows := by
  unfold State.endRecordFetch
  split
  · rfl
  · cases result <;> simp

@[simp] theorem State.endObjectRead_labelRows (p : SetupParams) (r : RenderRecord) (work : PaintWork)
    (result : BusRead (List Byte)) : (s.endObjectRead p r work result).labelRows = s.labelRows := by
  unfold State.endObjectRead
  split
  · rfl
  · cases result <;> simp

@[simp] theorem State.placePrintBand_labelRows (r : RenderRecord) (n : Nat) :
    (s.placePrintBand r n).labelRows = s.labelRows := by
  unfold State.placePrintBand
  split <;> rfl

@[simp] theorem State.endPrintRender_labelRows (p : SetupParams) (r : RenderRecord)
    (l : LabelEntry) : (s.endPrintRender p r l).labelRows = s.labelRows := by
  have numbered (t : State) :
      (t.updateLabel l.ringIndex fun l => { l with nextBand := l.nextBand + 1 }).labelRows =
        t.labelRows := t.updateLabel_labelRows _ fun _ => rfl
  unfold State.endPrintRender
  dsimp only
  split <;> simp [numbered]

@[simp] theorem State.endImageRender_labelRows (p : SetupParams) (r : RenderRecord) (j : ImageJob) :
    (s.endImageRender p r j).labelRows = s.labelRows := by
  unfold State.endImageRender
  dsimp only
  split <;> simp

@[simp] theorem State.endRender_labelRows (p : SetupParams) (r : RenderRecord) :
    (s.endRender p r).labelRows = s.labelRows := by
  unfold State.endRender
  dsimp only
  split <;> split <;> simp

@[simp] theorem State.cutRender_labelRows (r : RenderRecord) :
    (s.cutRender r).labelRows = s.labelRows := by
  unfold State.cutRender
  dsimp only
  split <;> simp

@[simp] theorem State.endRowWrite_labelRows (p : SetupParams) (j : ImageJob) (i : BufferId)
    (w : RowWrite) (result : BusWrite) : (s.endRowWrite p j i w result).labelRows = s.labelRows := by
  unfold State.endRowWrite
  split
  · simp [State.dropImage]
  · split
    · simp [State.dropImage]
    · unfold State.rowWritten
      dsimp only
      split_ifs <;> simp [State.dropImage]

end Rows

/-! ### Rows sent and padded -/

/-- The labels of the list are told apart. -/
theorem LabelsSound.only {s : State} (hs : LabelsSound s) {l : LabelEntry} (hl : l ∈ s.labels) :
    s.onlyLabel l := by
  obtain ⟨-, -, -, hnodup, -⟩ := hs
  exact ⟨hl, fun m hm e => List.inj_on_of_nodup_map hnodup hm hl e⟩

/-- One label of the list changed, with its ring index kept and its rows sound. -/
theorem LabelsSound.updateLabel {s : State} (hs : LabelsSound s) {l : LabelEntry}
    (hl : l ∈ s.labels) {f : LabelEntry → LabelEntry} (hindex : (f l).ringIndex = l.ringIndex)
    (hrows : (f l).rowsSound) : LabelsSound (s.updateLabel l.ringIndex f) := by
  have only := hs.only hl
  obtain ⟨horder, horder', hroom, hnodup, hlabels, hloads, hwrite⟩ := hs
  have of_mem {m : LabelEntry} (hm : m ∈ (s.updateLabel l.ringIndex f).labels) :
      m ∈ s.labels ∨ m = f l := by
    rw [State.updateLabel_eq] at hm
    obtain ⟨k, hk, rfl⟩ := List.mem_map.1 hm
    unfold updateEntry
    split
    · next e => exact .inr (by rw [only.2 k hk e])
    · exact .inl hk
  have indices : (s.updateLabel l.ringIndex f).labels.map LabelEntry.ringIndex =
      s.labels.map LabelEntry.ringIndex := by
    rw [State.updateLabel_eq, List.map_map]
    refine List.map_congr_left fun k hk => ?_
    unfold Function.comp updateEntry
    split
    · next e => rw [only.2 k hk e, hindex]
    · rfl
  refine ⟨horder, horder', by rwa [State.updateLabel_length], by rwa [indices], fun m hm => ?_,
    fun ld hld i hi => ?_, hwrite⟩
  · obtain hm | rfl := of_mem hm
    · exact hlabels m hm
    · rw [hindex]
      exact ⟨hrows, (hlabels l hl).2⟩
  · obtain ⟨hopen, hother⟩ := hloads ld hld i hi
    refine ⟨hopen, fun m hm => ?_⟩
    obtain hm | rfl := of_mem hm
    · exact hother m hm
    · rw [hindex]
      exact hother l hl

theorem LabelEntry.rowSentOn_rowsSound {l : LabelEntry} (h : l.rowsSound) (hdue : l.cursor < l.length) :
    l.rowSentOn.rowsSound := by
  obtain ⟨hsum, -, hpadded⟩ := h
  refine ⟨?_, ?_, hpadded⟩ <;> simp only [LabelEntry.rowSentOn] <;> omega

theorem LabelEntry.rowPadded_rowsSound {l : LabelEntry} (h : l.rowsSound) (hdue : l.cursor < l.length) :
    l.rowPadded.rowsSound := by
  obtain ⟨hsum, -, -⟩ := h
  refine ⟨?_, ?_, by simp [LabelEntry.rowPadded]⟩ <;> simp only [LabelEntry.rowPadded] <;> omega

theorem headCurrent_mem {labels : List LabelEntry} {l : LabelEntry} (h : headCurrent labels = some l) :
    l ∈ labels := List.mem_of_find?_eq_some h

/-- A step moves the cursor only of a label with a row due (R104 to R112). -/
theorem LabelsSound.rowStep {s : State} (hs : LabelsSound s) {l : LabelEntry} (hl : l ∈ s.labels)
    (p : SetupParams) : LabelsSound (s.rowStep p l) := by
  have hrows : l.rowsSound := by
    obtain ⟨-, -, -, -, hlabels, -⟩ := hs
    exact (hlabels l hl).1
  have ends (t : State) (ht : LabelsSound t) (st : Status) :
      LabelsSound (t.endLabel l.ringIndex st noObject) :=
    ht.of_ledger (State.ledger_of_control (by simp) (by simp))
  have moved (t : State) (ht : LabelsSound t) (hmem : l ∈ t.labels) {f : LabelEntry → LabelEntry}
      (hindex : (f l).ringIndex = l.ringIndex) (hsound : (f l).rowsSound) :
      LabelsSound (t.updateLabel l.ringIndex f) := ht.updateLabel hmem hindex hsound
  have of_head (h : HeadPort) : LabelsSound (s.setHead h) :=
    hs.of_ledger (State.ledger_of_control rfl rfl)
  have delivered (t : State) (ht : LabelsSound t) (hmem : l ∈ t.labels) (i : BufferId)
      (hdue : l.cursor < l.length) : LabelsSound (t.deliverRow p l i) :=
    moved _ (ht.of_ledger (State.ledger_of_control rfl rfl)) hmem rfl
      (LabelEntry.rowSentOn_rowsSound hrows hdue)
  have padded (h : HeadPort) (hdue : l.cursor < l.length) :
      LabelsSound (((s.setHead h).updateLabel l.ringIndex LabelEntry.rowPadded).freePassed
        l.ringIndex (l.cursor + 1)) :=
    (moved _ (of_head h) hl rfl (LabelEntry.rowPadded_rowsSound hrows hdue)).of_ledger
      (State.ledger_of_control (by simp) (by simp))
  unfold State.rowStep
  split
  · exact hs
  · exact hs
  · have counted : LabelsSound (s.updateLabel l.ringIndex fun l => { l with steps := l.steps + 1 }) :=
      moved s hs hl rfl hrows
    unfold State.countStep
    dsimp only
    split
    · exact ends _ counted _
    · exact counted
  · split
    · exact hs
    · next hdue =>
      rw [Nat.not_le] at hdue
      split
      · unfold State.dueRow
        split
        · exact delivered s hs hl _ hdue
        · next i _ =>
          exact delivered (s.headTake i) (hs.of_ledger (State.ledger_of_control (by simp) rfl)) hl i
            hdue
        · split
          · exact padded _ hdue
          · exact ends s hs _
      · unfold State.earlyStep
        split
        · exact padded _ hdue
        · exact ends s hs _

end Sys2Proof.Machine

/-! SUPPORT. The retire queues and the label list: what takes, ends of loads, the leaving of a label and the
posting of a record do to take order, and the invariant on labels (O57). -/

namespace Sys2Proof.Machine

/-! ### Operations that keep the ledger -/

section Ledger

variable (s : State)

@[simp] theorem State.setEngine_ledger (e : EngineControl) : (s.setEngine e).ledger = s.ledger := rfl
@[simp] theorem State.setCause_ledger (c : Cause) : (s.setCause c).ledger = s.ledger := rfl
@[simp] theorem State.setTimer_ledger (t : Option Nat) : (s.setTimer t).ledger = s.ledger := rfl
@[simp] theorem State.releaseSlot_ledger : s.releaseSlot.ledger = s.ledger := rfl

theorem State.setRing_ledger {r : Ring} {x : RingRecord}
    (hx : x.consumer = (s.rings.get r).consumer) : (s.setRing r x).ledger = s.ledger := by
  cases r <;> simp_all [State.ledger, State.labelRows]

@[simp] theorem State.setTake_ledger (r : Ring) (t : TakeInFlight) :
    (s.setTake r t).ledger = s.ledger := s.setRing_ledger rfl
@[simp] theorem State.setRingState_ledger (r : Ring) (x : RingState) :
    (s.setRingState r x).ledger = s.ledger := s.setRing_ledger rfl
@[simp] theorem State.storeProducer_ledger (r : Ring) (v : Half) :
    (s.storeProducer r v).ledger = s.ledger := s.setRing_ledger rfl
@[simp] theorem State.faultRing_ledger (r : Ring) (x : RingState) :
    (s.faultRing r x).ledger = s.ledger := s.setRing_ledger rfl
@[simp] theorem State.dropFetch_ledger (r : Ring) : (s.dropFetch r).ledger = s.ledger :=
  s.setRing_ledger rfl
@[simp] theorem State.beginFetch_ledger (p : SetupParams) (r : Ring) :
    (s.beginFetch p r).ledger = s.ledger := s.setRing_ledger rfl

@[simp] theorem State.discardTake_ledger (r : Ring) : (s.discardTake r).ledger = s.ledger := by
  obtain ⟨-, h⟩ | ⟨_, _, -, h⟩ | ⟨_, -, h⟩ := s.discardTake_cases r <;> rw [h] <;> simp

@[simp] theorem State.checkOverrun_ledger (p : SetupParams) (r : Ring) :
    (s.checkOverrun p r).ledger = s.ledger := by
  obtain h | ⟨-, -, h⟩ := s.checkOverrun_cases p r <;> rw [h]
  simp

@[simp] theorem State.endFlushAtBoundary_ledger (r : Ring) :
    (s.endFlushAtBoundary r).ledger = s.ledger := by
  unfold State.endFlushAtBoundary
  split
  · split
    · simp
    · rfl
  all_goals rfl

@[simp] theorem State.trimFlush_ledger (r : Ring) : (s.trimFlush r).ledger = s.ledger := by
  unfold State.trimFlush
  dsimp only
  split
  · split_ifs <;> simp
  all_goals rfl

@[simp] theorem State.producerChecked_ledger (r : Ring) (v : Half) :
    (s.producerChecked r v).ledger = s.ledger := by
  unfold State.producerChecked
  split <;> simp

@[simp] theorem State.abortStateLoad_ledger (r : Ring) : (s.abortStateLoad r).ledger = s.ledger := by
  unfold State.abortStateLoad
  split
  · next ld hld =>
    split
    · cases r
      · simp_all [State.ledger, State.labelRows]
      · rfl
    all_goals rfl
  · rfl

@[simp] theorem State.beginDrain_ledger : s.beginDrain.ledger = s.ledger := by
  unfold State.beginDrain
  dsimp only
  split <;> simp [State.toStopped]

@[simp] theorem State.setupOutcome_ledger (result : BusRead (BitVec 512)) :
    (s.setupOutcome result).ledger = s.ledger := by
  unfold State.setupOutcome
  dsimp only
  split
  · rfl
  · split <;> simp

@[simp] theorem State.writeCread_ledger (v : Half) : (s.writeCread v).ledger = s.ledger := by
  unfold State.writeCread
  dsimp only
  split_ifs <;> rfl

@[simp] theorem State.coalescePosting_ledger (p : SetupParams) :
    (s.coalescePosting p).ledger = s.ledger := by
  unfold State.coalescePosting
  split_ifs <;> rfl

@[simp] theorem State.writeCause_ledger (b : BitVec 6) : (s.writeCause b).ledger = s.ledger := by
  unfold State.writeCause State.coalesceClear
  dsimp only
  split
  · split
    · split_ifs <;> rfl
    · rfl
  · rfl

@[simp] theorem State.expireTimer_ledger : s.expireTimer.ledger = s.ledger := by
  unfold State.expireTimer
  split <;> rfl

@[simp] theorem State.countDown_ledger : s.countDown.ledger = s.ledger := by
  unfold State.countDown
  split <;> simp

@[simp] theorem State.countDiscarded_ledger : s.countDiscarded.ledger = s.ledger := by
  unfold State.countDiscarded
  split <;> rfl

end Ledger

/-! ### The retire queues -/

theorem LabelsSound.order {s : State} (hs : LabelsSound s) (r : Ring) : TakeOrder s r := by
  obtain ⟨hprint, himage, -⟩ := hs
  cases r
  · exact hprint
  · exact himage

/-- A ring index whose retire entry is needed unfinished: a label's, or the STATE's of the PRINT load. -/
def State.needsEntry (s : State) (i : Half) : Prop :=
  (∃ l ∈ s.labels, l.ringIndex = i) ∨ ∃ ld ∈ s.loads.print, ld.job = .state i

/-- The retire queues changed, with the labels, the PRINT load and the write in flight as they were. -/
theorem LabelsSound.of_queues {s u : State} (hs : LabelsSound s) (hlabels : u.labels = s.labels)
    (hloads : u.loads.print = s.loads.print) (horder : ∀ r, TakeOrder u r)
    (hopen : ∀ i, s.needsEntry i → s.unfinished i → u.unfinished i)
    (hwrite : ∀ w ∈ u.completion.write,
      ∃ e rest, u.completion.retire.get w.ring = e :: rest ∧ e.results ≠ none) : LabelsSound u := by
  obtain ⟨-, -, hroom, hnodup, hrows, hload, -⟩ := hs
  refine ⟨horder .print, horder .image, by rwa [hlabels], by rwa [hlabels], ?_, ?_, hwrite⟩
  · rw [hlabels]
    intro l hl
    obtain ⟨hsound, hl'⟩ := hrows l hl
    exact ⟨hsound, hopen _ (.inl ⟨l, hl, rfl⟩) hl'⟩
  · rw [hlabels, hloads]
    intro ld hld i hi
    obtain ⟨h, hother⟩ := hload ld hld i hi
    exact ⟨hopen i (.inr ⟨ld, hld, hi⟩) h, hother⟩

/-- The write in flight is of a finished record, and stays so while the head of its queue does. -/
theorem LabelsSound.written {s : State} (hs : LabelsSound s) : ∀ w ∈ s.completion.write,
    ∃ e rest, s.completion.retire.get w.ring = e :: rest ∧ e.results ≠ none := by
  obtain ⟨-, -, -, -, -, -, h⟩ := hs
  exact h

/-- A take appends its entry behind the others (R152). -/
theorem LabelsSound.takeProper {s : State} (hs : LabelsSound s) (r : Ring) (k : Byte) (tag : Half)
    (res : Option Results) : LabelsSound (s.takeProper r k tag res) := by
  refine hs.of_queues rfl rfl (fun q => ?_) (fun i _ h => ?_) (fun w hw => ?_)
  · have := hs.order q
    unfold TakeOrder at this ⊢
    simp only [State.takeProper_eq, PerRing.get_set]
    split
    · next h =>
      subst h
      rw [List.map_append, List.length_append, List.map_singleton, List.length_singleton,
        indicesBelow_succ, this]
    · exact this
  · obtain ⟨e, he, hi⟩ := h
    refine ⟨e, ?_, hi⟩
    cases r
    · exact List.mem_append_left _ he
    · exact he
  · obtain ⟨e, rest, hqueue, hfinished⟩ := hs.written w hw
    simp only [State.takeProper_eq, PerRing.get_set]
    split
    · next h =>
      subst h
      rw [hqueue]
      exact ⟨e, _, rfl, hfinished⟩
    · exact ⟨e, rest, hqueue, hfinished⟩

/-- The index of an unfinished entry is not the consumer index, nor any taken next. -/
theorem LabelsSound.index_ne_consumer {s : State} (hs : LabelsSound s) (hslots : SlotAccounting s)
    {i : Half} (h : s.unfinished i) : i ≠ s.rings.print.consumer := by
  obtain ⟨-, hcount, -⟩ := hslots
  obtain ⟨e, he, rfl, -⟩ := h
  have horder := hs.order .print
  unfold TakeOrder at horder
  have hmem : e.ringIndex ∈ indicesBelow s.rings.print.consumer s.completion.retire.print.length := by
    rw [← PerRing.get_print, ← PerRing.get_print, ← horder]
    exact List.mem_map_of_mem he
  refine ne_of_mem_indicesBelow ?_ hmem
  unfold State.ringSlots at hcount
  rw [PerRing.get_print] at hcount
  omega

/-- Finishing an entry that no label and no STATE load of the PRINT ring needs (R170). -/
theorem LabelsSound.finishRetire {s : State} (hs : LabelsSound s) {r : Ring} {i : Half}
    (hfree : r = .print → ¬s.needsEntry i) (res : Results) : LabelsSound (s.finishRetire r i res) := by
  have queue (q : Ring) : (s.finishRetire r i res).completion.retire.get q =
      if q = r then (s.completion.retire.get q).map (RetireEntry.finish i res)
      else s.completion.retire.get q := by
    simp only [State.finishRetire, State.setRetire, State.setCompletion_completion, PerRing.get_set]
    split
    · next h => rw [h]
    · rfl
  refine hs.of_queues rfl rfl (fun q => ?_) (fun k hk h => ?_) (fun w hw => ?_)
  · have := hs.order q
    unfold TakeOrder at this ⊢
    rw [State.finishRetire_length, queue]
    split
    · rw [List.map_map]
      exact (List.map_congr_left fun e _ => RetireEntry.finish_ringIndex i res e).trans this
    · exact this
  · obtain ⟨e, he, hindex, hnone⟩ := h
    have hprint := queue .print
    rw [PerRing.get_print, PerRing.get_print] at hprint
    unfold State.unfinished
    rw [hprint]
    split
    · next hr =>
      have hne : e.ringIndex ≠ i := by
        rintro rfl
        exact hfree hr.symm (hindex ▸ hk)
      have hkept : e.finish i res = e := by simp [RetireEntry.finish, hne]
      exact ⟨e, List.mem_map.2 ⟨e, he, hkept⟩, hindex, hnone⟩
    · exact ⟨e, he, hindex, hnone⟩
  · obtain ⟨e, rest, hqueue, hfinished⟩ := hs.written w hw
    rw [queue]
    split
    · obtain ⟨x, hx⟩ := Option.ne_none_iff_exists'.1 hfinished
      rw [hqueue, List.map_cons, RetireEntry.finish_of_finished hx]
      exact ⟨e, _, rfl, hfinished⟩
    · exact ⟨e, rest, hqueue, hfinished⟩

theorem LabelsSound.imageLeaves {s : State} (hs : LabelsSound s) : LabelsSound s.imageLeaves := by
  unfold State.imageLeaves
  split
  · exact hs
  · exact (hs.finishRetire (by rintro ⟨⟩) _).of_ledger rfl

/-! ### Takes -/

/-- A label's entry taken: the list has a label more, told apart by its index (R95). -/
theorem LabelsSound.addLabel {s : State} (hs : LabelsSound s) (hslots : SlotAccounting s)
    (hroom : s.labels.length < 4) (k : Byte) (tag : Half) {l : LabelEntry}
    (hindex : l.ringIndex = s.rings.print.consumer) (hrows : l.rowsSound) :
    LabelsSound ((s.takeProper .print k tag none).setLabels (s.labels ++ [l])) := by
  have hnew (i : Half) (h : s.unfinished i) : i ≠ l.ringIndex := by
    rw [hindex]
    exact hs.index_ne_consumer hslots h
  obtain ⟨-, -, -, hnodup, hlabels, hload, -⟩ := id hs
  obtain ⟨horder, horder', -, -, hlabels', hload', hwrite'⟩ := hs.takeProper .print k tag none
  have hopen : (s.takeProper .print k tag none).unfinished l.ringIndex :=
    ⟨⟨s.rings.print.consumer, tag, k, none⟩, List.mem_append_right _ (List.mem_singleton.2 rfl),
      hindex.symm, rfl⟩
  refine ⟨horder, horder', ?_, ?_, fun m hm => ?_, fun ld hld i hi => ?_, hwrite'⟩
  · simp only [State.setLabels_labels, List.length_append, List.length_singleton]
    omega
  · rw [State.setLabels_labels, List.map_append, List.map_singleton, List.nodup_append]
    refine ⟨hnodup, List.nodup_singleton _, fun a ha b hb => ?_⟩
    obtain ⟨m, hm, rfl⟩ := List.mem_map.1 ha
    rw [List.mem_singleton.1 hb]
    exact hnew _ (hlabels m hm).2
  · obtain hm | hm := List.mem_append.1 hm
    · exact hlabels' m hm
    · rw [List.mem_singleton.1 hm]
      exact ⟨hrows, hopen⟩
  · obtain ⟨h, hother⟩ := hload' ld hld i hi
    refine ⟨h, fun m hm => ?_⟩
    obtain hm | hm := List.mem_append.1 hm
    · exact hother m hm
    · rw [List.mem_singleton.1 hm]
      exact (hnew i (hload ld hld i hi).1).symm

/-- The PRINT load changed to one that serves no STATE. -/
theorem LabelsSound.setLoad {s : State} (hs : LabelsSound s) {r : Ring} {x : Option StateLoad}
    (hx : r = .print → ∀ ld ∈ x, ∀ i, ld.job ≠ .state i) : LabelsSound (s.setLoad r x) := by
  obtain ⟨horder, horder', hroom, hnodup, hlabels, hload, hwrite⟩ := hs
  refine ⟨horder, horder', hroom, hnodup, hlabels, fun ld hld i hi => ?_, hwrite⟩
  cases r
  · exact absurd hi (hx rfl ld hld i)
  · exact hload ld hld i hi

theorem LabelsSound.takeLabel {s : State} (hs : LabelsSound s) (hslots : SlotAccounting s)
    (hroom : s.labels.length < 4) (d : BitVec 256) (f : LabelFields) :
    LabelsSound (s.takeLabel d f) := by
  have added (x : RenderStatus) := hs.addLabel hslots hroom (descriptorKind d) (descriptorTag d)
    (l := newLabel s.rings.print.consumer (descriptorTag d) f x) rfl
    ⟨rfl, Nat.zero_le _, by simp [newLabel, JobReport.initial, Warnings.clear]⟩
  unfold State.takeLabel
  dsimp only
  split
  · exact (added .rendering).of_ledger (State.ledger_of_control (by simp) (by simp; rfl))
  · exact (added .loading).setLoad (by rintro - _ ⟨⟩ i ⟨⟩)

theorem LabelsSound.takeImage {s : State} (hs : LabelsSound s) (d : BitVec 256) (f : ImageFields) :
    LabelsSound (s.takeImage d f) := by
  have taken := hs.takeProper .image (descriptorKind d) (descriptorTag d) none
  unfold State.takeImage
  dsimp only
  split
  · exact taken.of_ledger (State.ledger_of_control (by simp) (by simp))
  · exact (taken.of_ledger (u := (s.takeProper .image _ _ none).setImage _) rfl).setLoad
      (by rintro ⟨⟩)

/-- A STATE taken: its entry is unfinished, and its index is no label's (R91). -/
theorem LabelsSound.takeStateDescriptor {s : State} (hs : LabelsSound s) (hslots : SlotAccounting s)
    (r : Ring) (d : BitVec 256) (a : Word) : LabelsSound (s.takeStateDescriptor r d a) := by
  have taken := hs.takeProper r (descriptorKind d) (descriptorTag d) none
  unfold State.takeStateDescriptor
  dsimp only
  cases r with
  | image => exact taken.setLoad (by rintro ⟨⟩)
  | print =>
    obtain ⟨-, -, -, -, hlabels, -⟩ := id hs
    obtain ⟨horder, horder', hroom, hnodup, hlabels', -, hwrite⟩ := taken
    refine ⟨horder, horder', hroom, hnodup, hlabels', ?_, hwrite⟩
    rintro _ ⟨⟩ i ⟨⟩
    refine ⟨⟨⟨s.rings.print.consumer, descriptorTag d, descriptorKind d, none⟩,
      List.mem_append_right _ (List.mem_singleton.2 rfl), rfl, rfl⟩, fun l hl => ?_⟩
    exact hs.index_ne_consumer hslots (hlabels l hl).2

theorem LabelsSound.takeFlushed {s : State} (hs : LabelsSound s) (r : Ring) (d : BitVec 256) :
    LabelsSound (s.takeFlushed r d) :=
  (hs.takeProper r (descriptorKind d) (descriptorTag d) (some (plainResults .flushed))).of_ledger
    (State.endFlushAtBoundary_ledger _ r)

theorem LabelsSound.beginFlush {s : State} (hs : LabelsSound s) (r : Ring) :
    LabelsSound (s.beginFlush r) := by
  have flushing (x : RingState) : LabelsSound ((s.setRingState r x).flushHeld r) := by
    have ht : LabelsSound (s.setRingState r x) := hs.of_ledger (by simp)
    unfold State.flushHeld
    split
    · exact ht.takeFlushed r _
    · exact ht
  unfold State.beginFlush
  dsimp only
  split
  · split
    · split
      · exact flushing _
      · exact hs
    · exact flushing _
    all_goals exact hs
  · exact hs

theorem LabelsSound.takeChecked {s : State} (hs : LabelsSound s) (hslots : SlotAccounting s) (r : Ring)
    (d : BitVec 256) : LabelsSound (s.takeChecked r d) := by
  unfold State.takeChecked
  split
  · exact hs.takeProper r _ _ _
  · exact hs.takeProper r _ _ _
  · split
    · next hroom => exact hs.takeLabel hslots hroom d _
    · exact hs.of_ledger (by simp)
  · exact hs.takeImage d _
  · exact hs.takeStateDescriptor hslots r d _
  · exact hs.takeProper r _ _ _

theorem LabelsSound.endFetch {s : State} (hs : LabelsSound s) (hslots : SlotAccounting s) (r : Ring)
    (marked : Bool) (result : BusRead (BitVec 256)) : LabelsSound (s.endFetch r marked result) := by
  obtain ⟨-, h⟩ | ⟨-, -, h⟩ | ⟨-, d, -, ⟨-, h⟩ | ⟨-, -, h⟩ | ⟨-, -, h⟩⟩ :=
    s.endFetch_cases r marked result <;> rw [h]
  · exact hs.of_ledger (by simp)
  · exact hs.of_ledger (by simp)
  · exact hs.of_ledger (by simp)
  · exact hs.takeChecked hslots r d
  · exact hs.takeFlushed r d

/-! ### Ends of loads, and a label's leaving -/

/-- With a load gone its STATE's entry may be finished: no label has its index (R91). -/
theorem LabelsSound.finishLoaded {s : State} (hs : LabelsSound s) {r : Ring} {ld : StateLoad}
    {i : Half} (hload : s.loads.get r = some ld) (hjob : ld.job = .state i) (res : Results) :
    LabelsSound ((s.setLoad r none).finishRetire r i res) := by
  have hgone : LabelsSound (s.setLoad r none) := hs.setLoad (by rintro - _ ⟨⟩)
  refine hgone.finishRetire ?_ res
  rintro rfl (⟨l, hl, e⟩ | ⟨_, ⟨⟩, -⟩)
  obtain ⟨-, -, -, -, -, hstate, -⟩ := hs
  exact (hstate ld hload i hjob).2 l hl e

theorem LabelsSound.endLoad {s : State} (hs : LabelsSound s) {r : Ring} {ld : StateLoad}
    (hload : s.loads.get r = some ld) (result : BusRead (BitVec 384)) :
    LabelsSound (s.endLoad r ld result) := by
  have hgone : LabelsSound (s.setLoad r none) := hs.setLoad (by rintro - _ ⟨⟩)
  have kept {u : State} (hcontrol : u.control = (s.setLoad r none).control)
      (hrows : u.labelRows = s.labelRows) : LabelsSound u :=
    hgone.of_ledger (State.ledger_of_control hcontrol hrows)
  have applied (d : BitVec 384) {u : State}
      (hcontrol : u.control = ((s.setLoad r none).setRenderState r
        (applyStateRecord d (s.renderStates.get r))).control)
      (hrows : u.labelRows = s.labelRows) : LabelsSound u :=
    LabelsSound.of_ledger (s := (s.setLoad r none).setRenderState r
      (applyStateRecord d (s.renderStates.get r))) (hgone.of_ledger rfl)
      (State.ledger_of_control hcontrol hrows)
  obtain ⟨-, h⟩ | ⟨-, st, h⟩ | ⟨-, d, -, -, h⟩ := s.endLoad_cases r ld result <;> rw [h]
  · unfold State.loadDropped
    split
    · exact kept (by simp) (by simp)
    · exact hgone.imageLeaves
    · next i hjob => exact hs.finishLoaded hload hjob _
  · unfold State.loadFailed
    split
    · exact kept (by simp) (by simp)
    · exact (kept (u := (s.setLoad r none).endImage st noObject) (by simp) (by simp)).imageLeaves
    · next i hjob => exact hs.finishLoaded hload hjob _
  · unfold State.loadApplied
    dsimp only
    split
    · exact applied d (by simp) (by simp)
    · exact applied d (by simp) (by simp)
    · next i hjob =>
      exact (hs.finishLoaded hload hjob (plainResults .ok)).of_ledger rfl

/-- A label leaves the list, and its entry, no other label's, is finished (R122). -/
theorem LabelsSound.removeLabel {s : State} (hs : LabelsSound s) {l : LabelEntry}
    (hl : s.labels.find? LabelEntry.atRest = some l) : LabelsSound (s.removeLabel l) := by
  have hmem := List.mem_of_find?_eq_some hl
  obtain ⟨a, before, after, hbefore, hrest, hsplit, herase⟩ :=
    List.exists_of_eraseP hmem (List.find?_some hl)
  have ha : a = l := by
    rw [hsplit, List.find?_append, List.find?_eq_none.2 fun x hx => by simpa using hbefore x hx,
      List.find?_cons_of_pos hrest] at hl
    simpa using hl
  subst ha
  obtain ⟨horder, horder', hroom, hnodup, hlabels, hload, hwrite⟩ := hs
  have sub (m : LabelEntry) (hm : m ∈ s.labels.eraseP LabelEntry.atRest) : m ∈ s.labels :=
    List.mem_of_mem_eraseP hm
  have gone : ∀ m ∈ s.labels.eraseP LabelEntry.atRest, m.ringIndex ≠ a.ringIndex := by
    rw [hsplit, List.map_append, List.map_cons, List.nodup_middle, List.nodup_cons,
      ← List.map_append] at hnodup
    rw [herase]
    intro m hm e
    exact hnodup.1 (e ▸ List.mem_map_of_mem hm)
  have shorter : LabelsSound (s.setLabels (s.labels.eraseP LabelEntry.atRest)) := by
    refine ⟨horder, horder', ?_, ?_, fun m hm => hlabels m (sub m hm), fun ld hld i hi => ?_, hwrite⟩
    · exact (List.length_eraseP_le ..).trans hroom
    · exact hnodup.sublist ((List.eraseP_sublist ..).map _)
    · obtain ⟨h, hother⟩ := hload ld hld i hi
      exact ⟨h, fun m hm => hother m (sub m hm)⟩
  refine shorter.finishRetire (r := .print) ?_ a.results
  rintro - (⟨m, hm, e⟩ | ⟨ld, hld, hi⟩)
  · exact gone m hm e
  · exact (hload ld hld a.ringIndex hi).2 a hmem rfl

/-! ### The completion unit -/

/-- The write begun is of a finished record (R171). -/
theorem LabelsSound.choosePort {s : State} (hs : LabelsSound s) (p : SetupParams) :
    LabelsSound (s.choosePort p) := by
  have ready {r : Ring} {e : RetireEntry} {res : Results} (h : s.readyRecord r = some (e, res)) :
      ∃ rest, s.completion.retire.get r = e :: rest ∧ e.results ≠ none := by
    unfold State.readyRecord at h
    split at h
    · cases h
    · next e' rest hqueue =>
      obtain ⟨x, hx, hpair⟩ := Option.map_eq_some_iff.1 h
      cases hpair
      exact ⟨rest, hqueue, by simp [hx]⟩
  have writing {r : Ring} {e : RetireEntry} {res : Results} (h : s.readyRecord r = some (e, res))
      {t : State} (ht : LabelsSound t) (hretire : t.completion.retire = s.completion.retire) :
      LabelsSound (t.beginWrite p r e res) := by
    refine ht.of_queues rfl rfl (fun q => ht.order q) (fun _ _ h => h) ?_
    rintro _ ⟨⟩
    obtain ⟨rest, hqueue, hfinished⟩ := ready h
    exact ⟨e, rest, (congrArg (·.get r) hretire).trans hqueue, hfinished⟩
  have passed : LabelsSound s.passPostingTurn := hs.of_ledger rfl
  unfold State.choosePort
  split
  · exact hs
  · next h _ => exact writing h hs rfl
  · next h => exact writing h hs rfl
  · next hprint himage =>
    split
    · exact writing hprint passed rfl
    · exact writing himage passed rfl

/-- A posted record was finished: no entry that is still needed leaves its queue (R173). -/
theorem LabelsSound.post {s : State} (hs : LabelsSound s) {w : CompletionWrite}
    (hw : s.completion.write = some w) (p : SetupParams) : LabelsSound (s.post p w) := by
  obtain ⟨e, rest, hqueue, hfinished⟩ := hs.written w hw
  refine LabelsSound.of_ledger ?_ (State.coalescePosting_ledger _ p)
  have queue (q : Ring) :
      (s.completion.retire.set w.ring (s.completion.retire.get w.ring).tail).get q =
        if q = w.ring then (s.completion.retire.get q).tail else s.completion.retire.get q := by
    rw [PerRing.get_set]
    split
    · next h => rw [h]
    · rfl
  refine hs.of_queues rfl rfl (fun q => ?_) (fun i _ h => ?_) (by rintro _ ⟨⟩)
  · have := hs.order q
    unfold TakeOrder at this ⊢
    rw [State.setCompletion_completion, State.setCompletion_rings, queue]
    split
    · rw [List.map_tail, this, List.length_tail, indicesBelow_tail]
    · exact this
  · obtain ⟨x, hx, hindex, hnone⟩ := h
    refine ⟨x, ?_, hindex, hnone⟩
    have hprint := queue .print
    rw [PerRing.get_print, PerRing.get_print] at hprint
    rw [State.setCompletion_completion, hprint]
    split
    · next hr =>
      rw [← hr, PerRing.get_print] at hqueue
      rw [hqueue] at hx ⊢
      obtain rfl | hx := List.mem_cons.1 hx
      · exact absurd hnone hfinished
      · exact hx
    · exact hx

/-- A ring reset finds its retire queue empty: any consumer index has it in order (R164). -/
theorem LabelsSound.resetRing {s : State} (hs : LabelsSound s) {r : Ring}
    (hempty : s.completion.retire.get r = []) : LabelsSound (s.resetRing r) := by
  have hretire : (s.discardTake r).completion.retire = s.completion.retire :=
    congrArg (fun x => x.2.1) (s.discardTake_ledger r)
  have ht : LabelsSound (s.discardTake r) := hs.of_ledger (s.discardTake_ledger r)
  refine ht.of_queues rfl rfl (fun q => ?_) (fun _ _ h => h) ht.written
  have := ht.order q
  unfold TakeOrder at this ⊢
  by_cases h : q = r
  · subst h
    have : (s.resetRing q).completion.retire.get q = [] := by
      rw [← hempty]
      exact congrArg (·.get q) hretire
    rw [this]
    rfl
  · simp only [State.resetRing, State.setRenderState_completion, State.setRenderState_rings,
      State.setRing_completion, State.setRing_rings, PerRing.get_set_of_ne _ _ h]
    exact this

/-- A session just cleared has no label and no entry. -/
theorem LabelsSound.of_initial {s : State} (hcompletion : s.completion = CompletionUnit.initial)
    (hloads : s.loads = ⟨none, none⟩) (hlabels : s.labels = []) : LabelsSound s := by
  unfold LabelsSound TakeOrder
  rw [hcompletion, hloads, hlabels]
  exact ⟨rfl, rfl, by decide, List.nodup_nil, by rintro _ ⟨⟩, by rintro _ ⟨⟩, by rintro _ ⟨⟩⟩

theorem JobEffect.labels {s u : State} (hs : LabelsSound s) (h : JobEffect s u) : LabelsSound u := by
  have kept {u : State} (hcontrol : u.control = s.control) (hrows : u.labelRows = s.labelRows) :
      LabelsSound u := hs.of_ledger (State.ledger_of_control hcontrol hrows)
  have entry {u : State} (hcontrol : s.keptButImageEntry u) (hrows : u.labelRows = s.labelRows) :
      LabelsSound u := by
    obtain h | ⟨i, res, h⟩ := hcontrol
    · exact kept h hrows
    · exact (hs.finishRetire (r := .image) (by rintro ⟨⟩) res).of_ledger
        (State.ledger_of_control h hrows)
  cases h with
  | rowStep p l hp hl => exact hs.rowStep (headCurrent_mem hl) p
  | mark l => exact kept rfl (s.updateLabel_labelRows _ fun _ => rfl)
  | burnMainEnd p d => exact kept (s.endBurnMain_control p d) (s.endBurnMain_labelRows p d)
  | burnBoostEnd p d => exact kept (s.endDelivery_control p d) (s.endDelivery_labelRows p d)
  | grant p => exact kept (s.arbitrate_control p) (s.arbitrate_labelRows p)
  | recordFetchEnd p r a result =>
    exact kept (s.endRecordFetch_control p r result) (s.endRecordFetch_labelRows p r result)
  | objectReadEnd p r a n work result =>
    exact kept (s.endObjectRead_control p r work result) (s.endObjectRead_labelRows p r work result)
  | renderEnd p r => exact kept (s.endRender_control p r) (s.endRender_labelRows p r)
  | renderCut r => exact entry (s.cutRender_control r) (s.cutRender_labelRows r)
  | rowWriteEnd p j w i result =>
    exact entry (s.endRowWrite_control p j i w result) (s.endRowWrite_labelRows p j i w result)
  | leaveWaiting l => exact kept (s.startHead_control l) (s.startHead_labelRows l)
  | labelLeaves l hl => exact hs.removeLabel hl

/-- Every effect keeps take order and the labels' rows. -/
theorem Effect.labels {s u : State} (hslots : SlotAccounting s) (hs : LabelsSound s)
    (h : Effect s u) : LabelsSound u := by
  cases h with
  | idle | refused | setupWrite v | ienWrite v => exact hs
  | job hjob => exact hjob.labels hs
  | start | engineReset => exact .of_initial rfl rfl rfl
  | abortPrint =>
    refine LabelsSound.beginFlush (hs.of_ledger ?_) _
    rw [State.abortStateLoad_ledger]
    exact State.ledger_of_control s.abortLabels_control s.abortLabels_labelRows
  | abortImage =>
    refine LabelsSound.beginFlush (LabelsSound.of_ledger ?_ (State.abortStateLoad_ledger _ _)) _
    obtain h | ⟨i, res, h⟩ := s.abortImageJob_control
    · exact hs.of_ledger (State.ledger_of_control h s.abortImageJob_labelRows)
    · exact (hs.finishRetire (r := .image) (by rintro ⟨⟩) res).of_ledger
        (State.ledger_of_control h s.abortImageJob_labelRows)
  | ringReset r hrunning hempty => exact hs.resetRing hempty
  | fetchEnd r a marked result => exact hs.endFetch hslots r marked result
  | heldLabel d htake hrunning hroom => exact hs.takeLabel hslots hroom d _
  | loadEnd r ld result hload => exact hs.endLoad hload result
  | writeStart p => exact hs.choosePort p
  | posted p w hp hw => exact hs.post hw p
  | recordLost p w =>
    have freed : LabelsSound s.endWrite :=
      hs.of_queues rfl rfl hs.order (fun _ _ h => h) (by rintro _ ⟨⟩)
    exact freed.of_ledger s.endWrite.countDiscarded_ledger
  | setupFetchStart =>
    unfold State.beginSetupFetch
    split <;> exact hs
  | contestedFetch p r => exact hs.of_ledger (State.beginFetch_ledger s.passReservationTurn p r)
  | drained => exact hs.of_ledger rfl
  | _ => exact hs.of_ledger (by simp)

/-- Settles O57, effect by effect. -/
theorem stepKeepsLabels : Obligations.StepKeepsLabels := by
  intro s t hslots hs hstep
  exact (step_keeps (P := fun s => SlotAccounting s ∧ LabelsSound s) (fun _ _ h => h) (fun _ _ h => h)
    (fun _ h => h) (fun _ => ⟨.of_initial rfl rfl rfl, .of_initial rfl rfl rfl⟩)
    (fun h heffect => ⟨heffect.slots h.1, heffect.labels h.1 h.2⟩) ⟨hslots, hs⟩ hstep).2

end Sys2Proof.Machine

/-! SUPPORT. The tables in list order (R20, R27, R28): what admission, painting, RETIRE and the ends of jobs
do to a side's table and walker context, and from that the invariant on tables (O59). -/

namespace Sys2Proof.Machine

/-! ### What the rings and the completion unit leave of the jobs -/

/-- What the two state-record loads in flight serve. -/
def State.loadJobs (s : State) : PerRing (Option LoadJob) :=
  ⟨s.loads.print.map StateLoad.job, s.loads.image.map StateLoad.job⟩

/-- The blocks of the jobs that the rings and the completion unit leave alone, all but the head port, and
what the loads serve. -/
def State.jobs (s : State) : PerRing WalkerContext × PerRing (List TableEntry) × Bands ×
    List BufferId × Option RenderRecord × List LabelEntry × Option ImageJob ×
    PerRing (Option LoadJob) :=
  (s.walkers, s.tables, s.bands, s.printQueue, s.render, s.labels, s.image, s.loadJobs)

section Jobs

variable (s : State)

@[simp] theorem State.setEngine_jobs (e : EngineControl) : (s.setEngine e).jobs = s.jobs := rfl
@[simp] theorem State.setCause_jobs (c : Cause) : (s.setCause c).jobs = s.jobs := rfl
@[simp] theorem State.setTimer_jobs (t : Option Nat) : (s.setTimer t).jobs = s.jobs := rfl
@[simp] theorem State.releaseSlot_jobs : s.releaseSlot.jobs = s.jobs := rfl
@[simp] theorem State.setRing_jobs (r : Ring) (x : RingRecord) : (s.setRing r x).jobs = s.jobs := rfl
@[simp] theorem State.setTake_jobs (r : Ring) (t : TakeInFlight) : (s.setTake r t).jobs = s.jobs := rfl
@[simp] theorem State.setRingState_jobs (r : Ring) (x : RingState) :
    (s.setRingState r x).jobs = s.jobs := rfl
@[simp] theorem State.storeProducer_jobs (r : Ring) (v : Half) :
    (s.storeProducer r v).jobs = s.jobs := rfl
@[simp] theorem State.faultRing_jobs (r : Ring) (x : RingState) : (s.faultRing r x).jobs = s.jobs := rfl
@[simp] theorem State.dropFetch_jobs (r : Ring) : (s.dropFetch r).jobs = s.jobs := rfl
@[simp] theorem State.beginFetch_jobs (p : SetupParams) (r : Ring) : (s.beginFetch p r).jobs = s.jobs :=
  rfl
@[simp] theorem State.takeProper_jobs (r : Ring) (k : Byte) (tag : Half) (res : Option Results) :
    (s.takeProper r k tag res).jobs = s.jobs := rfl
@[simp] theorem State.takeFinished_jobs (r : Ring) (d : BitVec 256) (st : Status) :
    (s.takeFinished r d st).jobs = s.jobs := rfl
@[simp] theorem State.finishRetire_jobs (r : Ring) (i : Half) (res : Results) :
    (s.finishRetire r i res).jobs = s.jobs := rfl

@[simp] theorem State.discardTake_jobs (r : Ring) : (s.discardTake r).jobs = s.jobs := by
  obtain ⟨-, h⟩ | ⟨_, _, -, h⟩ | ⟨_, -, h⟩ := s.discardTake_cases r <;> rw [h] <;> rfl

@[simp] theorem State.checkOverrun_jobs (p : SetupParams) (r : Ring) :
    (s.checkOverrun p r).jobs = s.jobs := by
  obtain h | ⟨-, -, h⟩ := s.checkOverrun_cases p r <;> rw [h]
  simp

@[simp] theorem State.endFlushAtBoundary_jobs (r : Ring) : (s.endFlushAtBoundary r).jobs = s.jobs := by
  unfold State.endFlushAtBoundary
  split
  · split <;> rfl
  all_goals rfl

@[simp] theorem State.takeFlushed_jobs (r : Ring) (d : BitVec 256) :
    (s.takeFlushed r d).jobs = s.jobs := State.endFlushAtBoundary_jobs _ r

@[simp] theorem State.flushHeld_jobs (r : Ring) : (s.flushHeld r).jobs = s.jobs := by
  unfold State.flushHeld
  split
  · exact s.takeFlushed_jobs r _
  · rfl

@[simp] theorem State.beginFlush_jobs (r : Ring) : (s.beginFlush r).jobs = s.jobs := by
  unfold State.beginFlush
  dsimp only
  split
  · split
    · split
      · exact State.flushHeld_jobs _ r
      · rfl
    · exact State.flushHeld_jobs _ r
    all_goals rfl
  · rfl

@[simp] theorem State.abortStateLoad_jobs (r : Ring) : (s.abortStateLoad r).jobs = s.jobs := by
  unfold State.abortStateLoad
  split
  · split
    · cases r <;> simp_all [State.jobs, State.loadJobs]
    all_goals rfl
  · rfl

@[simp] theorem State.trimFlush_jobs (r : Ring) : (s.trimFlush r).jobs = s.jobs := by
  unfold State.trimFlush
  dsimp only
  split
  · split_ifs <;> rfl
  all_goals rfl

@[simp] theorem State.producerChecked_jobs (r : Ring) (v : Half) :
    (s.producerChecked r v).jobs = s.jobs := by
  unfold State.producerChecked
  split <;> simp

@[simp] theorem State.resetRing_jobs (r : Ring) : (s.resetRing r).jobs = s.jobs :=
  s.discardTake_jobs r

@[simp] theorem State.beginDrain_jobs : s.beginDrain.jobs = s.jobs := by
  unfold State.beginDrain
  dsimp only
  split <;> simp [State.toStopped]

@[simp] theorem State.beginSetupFetch_jobs : s.beginSetupFetch.jobs = s.jobs := by
  unfold State.beginSetupFetch
  split <;> rfl

@[simp] theorem State.setupOutcome_jobs (result : BusRead (BitVec 512)) :
    (s.setupOutcome result).jobs = s.jobs := by
  unfold State.setupOutcome
  dsimp only
  split
  · rfl
  · split <;> simp

@[simp] theorem State.writeCread_jobs (v : Half) : (s.writeCread v).jobs = s.jobs := by
  unfold State.writeCread
  dsimp only
  split_ifs <;> rfl

@[simp] theorem State.writeCause_jobs (b : BitVec 6) : (s.writeCause b).jobs = s.jobs := by
  unfold State.writeCause State.coalesceClear
  dsimp only
  split
  · split
    · split_ifs <;> rfl
    · rfl
  · rfl

@[simp] theorem State.expireTimer_jobs : s.expireTimer.jobs = s.jobs := by
  unfold State.expireTimer
  split <;> rfl

@[simp] theorem State.countDown_jobs : s.countDown.jobs = s.jobs := by
  unfold State.countDown
  split <;> simp

@[simp] theorem State.choosePort_jobs (p : SetupParams) : (s.choosePort p).jobs = s.jobs := by
  unfold State.choosePort
  split
  · rfl
  · rfl
  · rfl
  · split <;> rfl

@[simp] theorem State.coalescePosting_jobs (p : SetupParams) : (s.coalescePosting p).jobs = s.jobs := by
  unfold State.coalescePosting
  split_ifs <;> rfl

@[simp] theorem State.post_jobs (p : SetupParams) (w : CompletionWrite) : (s.post p w).jobs = s.jobs :=
  State.coalescePosting_jobs _ p

@[simp] theorem State.countDiscarded_jobs : s.countDiscarded.jobs = s.jobs := by
  unfold State.countDiscarded
  split <;> rfl

@[simp] theorem State.enterHalted_jobs (r : Ring) : (s.enterHalted r).jobs = s.jobs :=
  s.countDiscarded_jobs

end Jobs

/-! ### One table -/

theorem TableSound.empty (w : WalkerContext) (h : w.pending = none) : TableSound [] w :=
  ⟨by decide, List.Pairwise.nil, by rintro _ ⟨⟩, by rw [h]; rintro _ ⟨⟩⟩

/-- A table is read through its list indices alone. -/
theorem TableSound.of_indices {t t' : List TableEntry} {w : WalkerContext} (h : TableSound t w)
    (e : t'.map TableEntry.index = t.map TableEntry.index) : TableSound t' w := by
  have mem {x : TableEntry} (hx : x ∈ t') : ∃ y ∈ t, y.index = x.index := by
    have : x.index ∈ t.map TableEntry.index := e ▸ List.mem_map_of_mem hx
    exact List.mem_map.1 this
  obtain ⟨hroom, horder, hread, hpending⟩ := h
  refine ⟨?_, ?_, fun x hx => ?_, fun o ho => ?_⟩
  · have := congrArg List.length e
    rw [List.length_map, List.length_map] at this
    omega
  · rw [← List.pairwise_map (f := TableEntry.index) (R := (· < ·))] at horder ⊢
    rwa [e]
  · obtain ⟨y, hy, hi⟩ := mem hx
    exact hi ▸ hread y hy
  · obtain ⟨ho, hbefore⟩ := hpending o ho
    refine ⟨ho, fun x hx => ?_⟩
    obtain ⟨y, hy, hi⟩ := mem hx
    exact hi ▸ hbefore y hy

/-- Entries may leave a table (R30). -/
theorem TableSound.sublist {t t' : List TableEntry} {w : WalkerContext} (h : TableSound t w)
    (hsub : t'.Sublist t) : TableSound t' w := by
  obtain ⟨hroom, horder, hread, hpending⟩ := h
  exact ⟨hsub.length_le.trans hroom, horder.sublist hsub, fun x hx => hread x (hsub.subset hx),
    fun o ho => ⟨(hpending o ho).1, fun x hx => (hpending o ho).2 x (hsub.subset hx)⟩⟩

/-- An object read after every entry of a table: its index is below the next one and above theirs. -/
def FollowsTable (t : List TableEntry) (w : WalkerContext) (i : Nat) : Prop :=
  i < w.nextIndex ∧ ∀ e ∈ t, e.index < i

theorem TableSound.pending {t : List TableEntry} {w : WalkerContext} (h : TableSound t w)
    {o : PendingObject} (ho : w.pending = some o) : FollowsTable t w o.index := by
  obtain ⟨-, -, -, hpending⟩ := h
  exact hpending o ho

theorem TableSound.setPending {t : List TableEntry} {w : WalkerContext} (h : TableSound t w)
    {o : PendingObject} (ho : FollowsTable t w o.index) :
    TableSound t { w with pending := some o } := by
  obtain ⟨hroom, horder, hread, -⟩ := h
  exact ⟨hroom, horder, hread, by rintro _ ⟨⟩; exact ho⟩

theorem TableSound.clearPending {t : List TableEntry} {w : WalkerContext} (h : TableSound t w) :
    TableSound t { w with pending := none } := by
  obtain ⟨hroom, horder, hread, -⟩ := h
  exact ⟨hroom, horder, hread, by rintro _ ⟨⟩⟩

/-- An object is entered at the tail of a table with room (R26, R28). -/
theorem TableSound.enter {t : List TableEntry} {w : WalkerContext} (h : TableSound t w)
    {e : TableEntry} (he : FollowsTable t w e.index) (hroom : t.length < tableSize) :
    TableSound (t ++ [e]) { w with pending := none } := by
  obtain ⟨-, horder, hread, -⟩ := h
  refine ⟨?_, ?_, fun x hx => ?_, by rintro _ ⟨⟩⟩
  · rw [List.length_append]
    exact hroom
  · rw [List.pairwise_append]
    refine ⟨horder, List.pairwise_singleton _ _, fun x hx y hy => ?_⟩
    rw [List.mem_singleton.1 hy]
    exact he.2 x hx
  · obtain hx | hx := List.mem_append.1 hx
    · exact hread x hx
    · rw [List.mem_singleton.1 hx]
      exact he.1

/-- The next index raised by a record read (R22). -/
theorem TableSound.next {t : List TableEntry} {w : WalkerContext} (h : TableSound t w) :
    TableSound t { w with nextIndex := w.nextIndex + 1 } := by
  obtain ⟨hroom, horder, hread, hpending⟩ := h
  exact ⟨hroom, horder, fun x hx => (hread x hx).trans (Nat.lt_succ_self _),
    fun o ho => ⟨(hpending o ho).1.trans (Nat.lt_succ_self _), (hpending o ho).2⟩⟩

/-! ### Painting keeps the entries' indices -/

/-- The entry of a result. -/
def EntryResult.entry : EntryResult → TableEntry
  | .done e _ | .waits e _ _ _ _ | .objectFault e _ => e

/-- The table of a result. -/
def TableResult.table : TableResult → List TableEntry
  | .painted t _ | .waits t _ _ _ _ _ | .objectFault t _ _ => t

theorem PaintEnv.bitmapRows_index (env : PaintEnv) (e : TableEntry) (b : BitmapFields) (next : Nat)
    (kept : List Byte) : ∀ (rows : List Nat) (c : Canvas),
      (env.bitmapRows e b next kept rows c).entry.index = e.index := by
  intro rows
  induction rows with
  | nil => exact fun _ => rfl
  | cons r rest ih =>
    intro c
    unfold PaintEnv.bitmapRows
    split
    · exact ih _
    · split
      · exact ih _
      · rfl

theorem PaintEnv.textRows_index (env : PaintEnv) (e : TableEntry) (rows : List GlyphRow)
    (gathered : List (GlyphRow × List Byte)) (c : Canvas) :
    (env.textRows e rows gathered c).entry.index = e.index := by cases rows <;> rfl

theorem PaintEnv.placeCodes_index (env : PaintEnv) (e : TableEntry) (ascent descent : Nat) :
    ∀ (codes : List Half) (placed : List GlyphItem) (pen : Int) (c : Canvas),
      (env.placeCodes e ascent descent codes placed pen c).entry.index = e.index := by
  intro codes
  induction codes with
  | nil => exact fun placed _ c => env.textRows_index { e with progress := .text (some placed) } _ _ c
  | cons code rest ih =>
    intro placed pen c
    unfold PaintEnv.placeCodes
    split
    · rfl
    · exact ih _ _ _

theorem PaintEnv.beginEntry_index (env : PaintEnv) (e : TableEntry) (c : Canvas) :
    (env.beginEntry e c).entry.index = e.index := by
  unfold PaintEnv.beginEntry
  split
  · rfl
  · rfl
  · dsimp only
    split <;> exact env.bitmapRows_index e _ _ _ _ _
  · split
    · exact env.textRows_index e _ _ _
    all_goals rfl
  · split <;> rfl

theorem PaintEnv.resumeEntry_index (env : PaintEnv) (e : TableEntry) (work : PaintWork)
    (bytes : List Byte) (c : Canvas) : (env.resumeEntry e work bytes c).entry.index = e.index := by
  unfold PaintEnv.resumeEntry
  split
  · exact env.bitmapRows_index e _ _ _ _ _
  · exact env.placeCodes_index e _ _ _ _ _ _
  · exact env.placeCodes_index e _ _ _ _ _ _
  · exact env.textRows_index e _ _ _
  · split <;> rfl
  · rfl

theorem TableResult.behind_table (e : TableEntry) (t : TableResult) :
    (t.behind e).table = e :: t.table := by cases t <;> rfl

theorem PaintEnv.paintTable_indices (env : PaintEnv) : ∀ (t : List TableEntry) (c : Canvas),
    (env.paintTable t c).table.map TableEntry.index = t.map TableEntry.index := by
  intro t
  induction t with
  | nil => exact fun _ => rfl
  | cons e rest ih =>
    intro c
    have he := env.beginEntry_index e c
    unfold PaintEnv.paintTable
    cases hb : env.beginEntry e c with
    | done e' c' =>
      rw [hb] at he
      rw [TableResult.behind_table, List.map_cons, List.map_cons, ih c', ← he]
      rfl
    | waits e' c' a n w =>
      rw [hb] at he
      exact congrArg (· :: rest.map TableEntry.index) he
    | objectFault e' c' =>
      rw [hb] at he
      exact congrArg (· :: rest.map TableEntry.index) he

theorem PaintEnv.resumeTable_indices (env : PaintEnv) (work : PaintWork) (bytes : List Byte)
    (c : Canvas) : ∀ (t : List TableEntry) (place : Nat),
      (env.resumeTable t place work bytes c).table.map TableEntry.index = t.map TableEntry.index := by
  intro t
  induction t with
  | nil => exact fun _ => rfl
  | cons e rest ih =>
    intro place
    cases place with
    | succ place =>
      unfold PaintEnv.resumeTable
      rw [TableResult.behind_table, List.map_cons, List.map_cons, ih place]
    | zero =>
      have he := env.resumeEntry_index e work bytes c
      unfold PaintEnv.resumeTable
      cases hb : env.resumeEntry e work bytes c with
      | done e' c' =>
        rw [hb] at he
        rw [TableResult.behind_table, List.map_cons, List.map_cons, env.paintTable_indices rest c',
          ← he]
        rfl
      | waits e' c' a n w =>
        rw [hb] at he
        exact congrArg (· :: rest.map TableEntry.index) he
      | objectFault e' c' =>
        rw [hb] at he
        exact congrArg (· :: rest.map TableEntry.index) he

/-! ### Both sides -/

theorem TablesSound.get {s : State} (hs : TablesSound s) (r : Ring) :
    TableSound (s.tables.get r) (s.walkers.get r) := by
  cases r
  · exact hs.1
  · exact hs.2

theorem TablesSound.of_jobs {s u : State} (hs : TablesSound s) (h : u.jobs = s.jobs) :
    TablesSound u := by
  have hwalkers : u.walkers = s.walkers := congrArg (fun x => x.1) h
  have htables : u.tables = s.tables := congrArg (fun x => x.2.1) h
  unfold TablesSound
  rw [hwalkers, htables]
  exact hs

/-- One side's table and walker context replaced. -/
theorem TablesSound.set {s u : State} (hs : TablesSound s) {r : Ring} {t : List TableEntry}
    {w : WalkerContext} (h : TableSound t w) (htables : u.tables = s.tables.set r t)
    (hwalkers : u.walkers = s.walkers.set r w) : TablesSound u := by
  unfold TablesSound
  rw [htables, hwalkers]
  cases r
  · exact ⟨h, hs.2⟩
  · exact ⟨hs.1, h⟩

theorem TablesSound.setTable {s : State} (hs : TablesSound s) {r : Ring} {t : List TableEntry}
    (h : TableSound t (s.walkers.get r)) : TablesSound (s.setTable r t) :=
  hs.set h rfl (PerRing.set_get ..).symm

theorem TablesSound.setWalker {s : State} (hs : TablesSound s) {r : Ring} {w : WalkerContext}
    (h : TableSound (s.tables.get r) w) : TablesSound (s.setWalker r w) :=
  hs.set h (PerRing.set_get ..).symm rfl

theorem TablesSound.setRender {s : State} (hs : TablesSound s) (x : Option RenderRecord) :
    TablesSound (s.setRender x) := hs
theorem TablesSound.setBand {s : State} (hs : TablesSound s) (i : BufferId) (x : BandBuffer) :
    TablesSound (s.setBand i x) := hs
theorem TablesSound.setRenderState {s : State} (hs : TablesSound s) (r : Ring) (x : RenderState) :
    TablesSound (s.setRenderState r x) := hs
theorem TablesSound.updateImage {s : State} (hs : TablesSound s) (f : ImageJob → ImageJob) :
    TablesSound (s.updateImage f) := hs
theorem TablesSound.setImage {s : State} (hs : TablesSound s) (x : Option ImageJob) :
    TablesSound (s.setImage x) := hs
theorem TablesSound.updateLabel {s : State} (hs : TablesSound s) (i : Half)
    (f : LabelEntry → LabelEntry) : TablesSound (s.updateLabel i f) := hs
theorem TablesSound.setRenderStatus {s : State} (hs : TablesSound s) (i : Half) (x : RenderStatus) :
    TablesSound (s.setRenderStatus i x) := hs
theorem TablesSound.freeBand {s : State} (hs : TablesSound s) (i : BufferId) :
    TablesSound (s.freeBand i) := hs

theorem TablesSound.emptyWalker {s : State} (hs : TablesSound s) (r : Ring) :
    TablesSound (s.emptyWalker r) := hs.set (TableSound.empty _ rfl) rfl rfl

theorem TablesSound.updateReport {s : State} (hs : TablesSound s) (o : Owner)
    (f : JobReport → JobReport) : TablesSound (s.updateReport o f) := by cases o <;> exact hs

theorem TablesSound.setUpWalker {s : State} (hs : TablesSound s) (r : Ring) (o : Owner) (a : Word)
    (n : Nat) : TablesSound (s.setUpWalker r o a n) :=
  TablesSound.updateReport (s := (s.setWalker r ⟨some o, a, n, 0, none⟩).setTable r [])
    (hs.set (TableSound.empty _ rfl) rfl rfl) o _

/-! ### Ends of jobs -/

theorem TablesSound.dropPendingPad {s : State} (hs : TablesSound s) (i : Half) :
    TablesSound (s.dropPendingPad i) := by
  obtain ⟨_, h⟩ := s.dropPendingPad_frame i
  rw [h]
  exact hs

theorem TablesSound.endLabel {s : State} (hs : TablesSound s) (i : Half) (st : Status) (fi : Half) :
    TablesSound (s.endLabel i st fi) := by
  unfold State.endLabel
  split
  · exact hs
  · split
    · exact hs
    · have dropped := TablesSound.dropPendingPad
        (s := (s.updateLabel i (LabelEntry.atEnd st fi)).takeBack (.label i)) hs i
      unfold State.stopLabelRender
      split
      · exact dropped
      · split
        · exact (dropped.setRenderStatus _ _).emptyWalker .print
        · exact dropped

theorem TablesSound.endImage {s : State} (hs : TablesSound s) (st : Status) (fi : Half) :
    TablesSound (s.endImage st fi) := by
  unfold State.endImage
  dsimp only
  split
  · exact hs
  · exact TablesSound.emptyWalker (s := s.updateImage (ImageJob.atEnd st fi)) hs .image

theorem TablesSound.endJob {s : State} (hs : TablesSound s) (o : Owner) (st : Status) (fi : Half) :
    TablesSound (s.endJob o st fi) := by
  cases o
  · exact hs.endLabel _ _ _
  · exact hs.endImage _ _

theorem TablesSound.abortLabels {s : State} (hs : TablesSound s) : TablesSound s.abortLabels := by
  have fold (ls : List LabelEntry) : ∀ t : State, TablesSound t →
      TablesSound (ls.foldl (fun t l => t.endLabel l.ringIndex .aborted noObject) t) := by
    induction ls with
    | nil => exact fun _ ht => ht
    | cons l ls ih => exact fun t ht => ih _ (ht.endLabel _ _ _)
  exact fold s.labels s hs

theorem TablesSound.imageLeaves {s : State} (hs : TablesSound s) : TablesSound s.imageLeaves := by
  unfold State.imageLeaves
  split <;> exact hs

theorem TablesSound.dropImage {s : State} (hs : TablesSound s) (i : BufferId) :
    TablesSound (s.dropImage i) := TablesSound.imageLeaves (s := s.freeBand i) hs

theorem TablesSound.abortImageJob {s : State} (hs : TablesSound s) : TablesSound s.abortImageJob := by
  have ended := hs.endImage .aborted noObject
  unfold State.abortImageJob
  split
  · exact hs
  · split
    · exact hs
    · dsimp only
      split
      · exact ended
      · exact ended
      · exact ended
      · exact ended.imageLeaves
      · split
        · exact ended.dropImage _
        · exact ended.imageLeaves
        · exact ended

/-! ### The print path -/

theorem TablesSound.rowStep {s : State} (hs : TablesSound s) (p : SetupParams) (l : LabelEntry) :
    TablesSound (s.rowStep p l) := by
  unfold State.rowStep
  split
  · exact hs
  · exact hs
  · unfold State.countStep
    dsimp only
    split
    · exact (hs.updateLabel _ _).endLabel _ _ _
    · exact hs
  · split
    · exact hs
    · split
      · unfold State.dueRow
        split
        · exact hs
        · exact hs
        · split
          · exact hs
          · exact hs.endLabel _ _ _
      · unfold State.earlyStep
        split
        · exact hs
        · exact hs.endLabel _ _ _

theorem TablesSound.endDelivery {s : State} (hs : TablesSound s) (p : SetupParams) (d : Delivery) :
    TablesSound (s.endDelivery p d) := by
  have freed (t : State) (ht : TablesSound t) : TablesSound (t.freeDelivered d.label) := by
    unfold State.freeDelivered
    split <;> exact ht
  have after (t : State) (ht : TablesSound t) : TablesSound (t.afterDelivery d.label) := by
    obtain ⟨q, -, -, h⟩ | ⟨-, ⟨l, -, -, -, h⟩ | ⟨-, h⟩⟩ := t.afterDelivery_cases d.label <;> rw [h]
    · exact ht
    · exact ht.endLabel _ _ _
    · exact ht
  exact after _ (freed _ hs)

theorem TablesSound.endBurnMain {s : State} (hs : TablesSound s) (p : SetupParams) (d : Delivery) :
    TablesSound (s.endBurnMain p d) := by
  unfold State.endBurnMain
  split
  · exact hs
  · exact hs.endDelivery p d

/-! ### The walker and the rasterizer -/

theorem TablesSound.faultRender {s : State} (hs : TablesSound s) (r : RenderRecord) (st : Status)
    (k : Nat) : TablesSound (s.faultRender r st k) :=
  (hs.setRender _).endJob _ _ _

/-- Painting puts back a table with the same indices (R36). -/
theorem TablesSound.applyPainting {s : State} (hs : TablesSound s) (r : RenderRecord)
    {t : TableResult}
    (h : t.table.map TableEntry.index = (s.tables.get r.side).map TableEntry.index) :
    TablesSound (s.applyPainting r t) := by
  have kept (c : Canvas) : TablesSound ((s.setTable r.side t.table).keepCanvas r c) :=
    TablesSound.updateReport (s := (s.setTable r.side t.table).setBand _ _)
      (hs.setTable ((hs.get r.side).of_indices h)) _ _
  cases t with
  | painted table c => exact kept c
  | waits table place c a n w => exact kept c
  | objectFault table place c => exact (kept c).faultRender _ _ _

theorem TablesSound.startPaint {s : State} (hs : TablesSound s) (p : SetupParams) (r : RenderRecord) :
    TablesSound (s.startPaint p r) := hs.applyPainting r (PaintEnv.paintTable_indices _ _ _)

theorem TablesSound.nextObject {s : State} (hs : TablesSound s) (p : SetupParams) (r : RenderRecord) :
    TablesSound (s.nextObject p r) := by
  unfold State.nextObject
  dsimp only
  split
  · exact hs
  · exact hs.startPaint p r

theorem TablesSound.considerObject {s : State} (hs : TablesSound s) (p : SetupParams)
    (r : RenderRecord) {o : PendingObject}
    (ho : FollowsTable (s.tables.get r.side) (s.walkers.get r.side) o.index) :
    TablesSound (s.considerObject p r o) := by
  have cleared : TablesSound (s.setPendingObject r.side none) :=
    hs.setWalker (hs.get r.side).clearPending
  unfold State.considerObject
  dsimp only
  split
  · exact TablesSound.startPaint (hs.setWalker ((hs.get r.side).setPending ho)) p r
  · split
    · exact (cleared.updateReport _ _).nextObject p r
    · split
      · next hroom =>
        refine (TablesSound.updateReport ?_ _ _).nextObject p r
        exact hs.set ((hs.get r.side).enter (e := o.entry (s.renderStates.get r.side)) ho hroom) rfl rfl
      · exact cleared.faultRender _ _ _

theorem TablesSound.startAdmission {s : State} (hs : TablesSound s) (p : SetupParams)
    (r : RenderRecord) : TablesSound (s.startAdmission p r) := by
  unfold State.startAdmission
  split
  · next ho => exact hs.considerObject p r ((hs.get r.side).pending ho)
  · exact hs.nextObject p r

theorem TablesSound.recordRead {s : State} (hs : TablesSound s) (p : SetupParams) (r : RenderRecord)
    (d : BitVec 256) : TablesSound (s.recordRead p r d) := by
  unfold State.recordRead
  dsimp only
  split
  · exact hs.faultRender _ _ _
  · refine TablesSound.considerObject (hs.setWalker (hs.get r.side).next) p _ ?_
    obtain ⟨-, -, hread, -⟩ := hs.get r.side
    simp only [State.setWalker_walkers, State.setWalker_tables, PerRing.get_set_self]
    exact ⟨Nat.lt_succ_self _, hread⟩

theorem TablesSound.grant {s : State} (hs : TablesSound s) (p : SetupParams) (side : Ring) (o : Owner)
    (i : BufferId) (k rows : Nat) : TablesSound (s.grant p side o i k rows) := by
  obtain ⟨-, h⟩ | ⟨-, h, -⟩ := s.grant_cases p side o i k rows <;> rw [h]
  · exact hs
  · exact TablesSound.startAdmission (s := s.beginRender p side o i k rows) hs p _

theorem TablesSound.arbitrate {s : State} (hs : TablesSound s) (p : SetupParams) :
    TablesSound (s.arbitrate p) := by
  unfold State.arbitrate
  split
  · exact hs
  · split
    · exact hs.grant ..
    · split
      · exact TablesSound.grant (s := s.updateImage _) hs ..
      · exact hs

theorem TablesSound.endRecordFetch {s : State} (hs : TablesSound s) (p : SetupParams)
    (r : RenderRecord) (result : BusRead (BitVec 256)) : TablesSound (s.endRecordFetch p r result) := by
  unfold State.endRecordFetch
  split
  · exact hs
  · split
    · exact hs.faultRender _ _ _
    · exact hs.recordRead p r _

theorem TablesSound.endObjectRead {s : State} (hs : TablesSound s) (p : SetupParams)
    (r : RenderRecord) (work : PaintWork) (result : BusRead (List Byte)) :
    TablesSound (s.endObjectRead p r work result) := by
  unfold State.endObjectRead
  split
  · exact hs
  · split
    · exact hs.faultRender _ _ _
    · exact hs.applyPainting r (PaintEnv.resumeTable_indices _ _ _ _ _ _)

/-- RETIRE takes entries out of the table; the last band empties it (R30, R31). -/
theorem TablesSound.endRender {s : State} (hs : TablesSound s) (p : SetupParams) (r : RenderRecord) :
    TablesSound (s.endRender p r) := by
  have retired : TablesSound (s.setTable r.side (retire r.last (s.tables.get r.side))) :=
    hs.setTable ((hs.get r.side).sublist List.filter_sublist)
  unfold State.endRender
  dsimp only
  split
  · split
    · next l _ =>
      have placed : TablesSound
          ((s.setTable r.side (retire r.last (s.tables.get r.side))).placePrintBand r l.cursor) := by
        unfold State.placePrintBand
        split <;> exact retired
      have numbered := (placed.setRender none).updateLabel l.ringIndex fun l =>
        { l with nextBand := l.nextBand + 1 }
      unfold State.endPrintRender
      dsimp only
      split
      · exact (numbered.setRenderStatus _ _).emptyWalker .print
      · exact numbered
    · exact hs
  · split
    · unfold State.endImageRender
      dsimp only
      split
      · exact (((retired.setBand _ _).setRender none).setImage _).emptyWalker .image
      · exact retired
    · exact hs

theorem TablesSound.cutRender {s : State} (hs : TablesSound s) (r : RenderRecord) :
    TablesSound (s.cutRender r) := by
  have emptied : TablesSound (((s.freeBand r.buffer).setRender none).emptyWalker r.side) :=
    ((hs.freeBand _).setRender none).emptyWalker _
  unfold State.cutRender
  dsimp only
  split
  · exact emptied
  · exact emptied.imageLeaves

theorem TablesSound.endRowWrite {s : State} (hs : TablesSound s) (p : SetupParams) (j : ImageJob)
    (i : BufferId) (w : RowWrite) (result : BusWrite) :
    TablesSound (s.endRowWrite p j i w result) := by
  unfold State.endRowWrite
  split
  · exact hs.dropImage i
  · split
    · exact (hs.endImage _ _).dropImage i
    · unfold State.rowWritten
      dsimp only
      split
      · exact hs
      · split
        · exact ((hs.setImage _).endImage _ _).dropImage i
        · exact hs

/-! ### Takes and loads -/

theorem TablesSound.takeLabel {s : State} (hs : TablesSound s) (d : BitVec 256) (f : LabelFields) :
    TablesSound (s.takeLabel d f) := by
  unfold State.takeLabel
  dsimp only
  split
  · exact TablesSound.setUpWalker (s := (s.takeProper _ _ _ _).setLabels _) hs _ _ _ _
  · exact hs

theorem TablesSound.takeImage {s : State} (hs : TablesSound s) (d : BitVec 256) (f : ImageFields) :
    TablesSound (s.takeImage d f) := by
  unfold State.takeImage
  dsimp only
  split
  · exact TablesSound.setUpWalker (s := (s.takeProper _ _ _ _).setImage _) hs _ _ _ _
  · exact hs

theorem TablesSound.endFetch {s : State} (hs : TablesSound s) (r : Ring) (marked : Bool)
    (result : BusRead (BitVec 256)) : TablesSound (s.endFetch r marked result) := by
  obtain ⟨-, h⟩ | ⟨-, -, h⟩ | ⟨-, d, -, ⟨-, h⟩ | ⟨-, -, h⟩ | ⟨-, -, h⟩⟩ :=
    s.endFetch_cases r marked result <;> rw [h]
  · exact hs
  · exact hs
  · exact hs
  · unfold State.takeChecked
    split
    · exact hs
    · exact hs
    · split
      · exact hs.takeLabel d _
      · exact hs
    · exact hs.takeImage d _
    · exact hs
    · exact hs
  · exact hs.of_jobs (by simp)

theorem TablesSound.endLoad {s : State} (hs : TablesSound s) (r : Ring) (ld : StateLoad)
    (result : BusRead (BitVec 384)) : TablesSound (s.endLoad r ld result) := by
  have hgone : TablesSound (s.setLoad r none) := hs
  obtain ⟨-, h⟩ | ⟨-, st, h⟩ | ⟨-, d, -, -, h⟩ := s.endLoad_cases r ld result <;> rw [h]
  · unfold State.loadDropped
    split
    · exact hgone
    · exact hgone.imageLeaves
    · exact hgone
  · unfold State.loadFailed
    split
    · exact hgone.endLabel _ _ _
    · exact (hgone.endImage _ _).imageLeaves
    · exact hgone
  · unfold State.loadApplied
    dsimp only
    split
    · exact ((hgone.setRenderState _ _).setRenderStatus _ _).setUpWalker _ _ _ _
    · exact ((hgone.setRenderState _ _).updateImage _).setUpWalker _ _ _ _
    · exact hgone

theorem TablesSound.of_initial {s : State} (htables : s.tables = ⟨[], []⟩)
    (hwalkers : s.walkers = ⟨WalkerContext.empty, WalkerContext.empty⟩) : TablesSound s := by
  unfold TablesSound
  rw [htables, hwalkers]
  exact ⟨TableSound.empty _ rfl, TableSound.empty _ rfl⟩

theorem JobEffect.tables {s u : State} (hs : TablesSound s) (h : JobEffect s u) : TablesSound u := by
  cases h with
  | rowStep p l => exact hs.rowStep p l
  | mark l => exact hs
  | burnMainEnd p d => exact hs.endBurnMain p d
  | burnBoostEnd p d => exact hs.endDelivery p d
  | grant p => exact hs.arbitrate p
  | recordFetchEnd p r a result => exact hs.endRecordFetch p r result
  | objectReadEnd p r a n work result => exact hs.endObjectRead p r work result
  | renderEnd p r => exact hs.endRender p r
  | renderCut r => exact hs.cutRender r
  | rowWriteEnd p j w i result => exact hs.endRowWrite p j i w result
  | leaveWaiting l => exact hs
  | labelLeaves l => exact hs

/-- Every effect keeps the tables sound. -/
theorem Effect.tables {s u : State} (hs : TablesSound s) (h : Effect s u) : TablesSound u := by
  cases h with
  | idle | refused | setupWrite v | ienWrite v => exact hs
  | job hjob => exact hjob.tables hs
  | start | engineReset => exact .of_initial rfl rfl
  | abortPrint => exact hs.abortLabels.of_jobs (by simp)
  | abortImage => exact hs.abortImageJob.of_jobs (by simp)
  | fetchEnd r a marked result => exact hs.endFetch r marked result
  | heldLabel d => exact hs.takeLabel d _
  | loadEnd r ld result => exact hs.endLoad r ld result
  | contestedFetch p r => exact hs
  | recordLost p w => exact TablesSound.of_jobs (s := s.endWrite) hs (by simp)
  | drained => exact hs
  | _ => exact hs.of_jobs (by simp)

/-- Settles O59, effect by effect. -/
theorem stepKeepsTables : Obligations.StepKeepsTables := by
  intro s t hs hstep
  exact step_keeps (P := TablesSound) (fun _ _ h => h) (fun _ _ h => h) (fun _ h => h)
    (fun _ => .of_initial rfl rfl) (fun h => Effect.tables h) hs hstep

end Sys2Proof.Machine

/-! SUPPORT. The band buffers as the blocks that use them see them (R62, R70, R75, R127): the invariant of
Safety.lean on that view, the transitions that keep it, and what each operation makes of the view. -/

namespace Sys2Proof.Machine

/-! ### The view -/

/-- What the invariant on band buffers reads: each buffer's state and owner, the print band queue, the
buffer and job of the band render, the phase and buffer of the image job, and what the loads serve. -/
structure Bay where
  use : BufferId → BandState × Option Owner
  queue : List BufferId
  render : Option (BufferId × Owner)
  image : Option (ImagePhase × Option BufferId)
  loads : PerRing (Option LoadJob)

/-- The buffer and job of a band render. -/
def RenderRecord.place (r : RenderRecord) : BufferId × Owner := (r.buffer, r.job)

/-- The phase and buffer of the image job. -/
def ImageJob.stage (j : ImageJob) : ImagePhase × Option BufferId := (j.phase, j.buffer)

/-- The view of a state. -/
def State.bay (s : State) : Bay where
  use i := ((s.bands.get i).state, (s.bands.get i).owner)
  queue := s.printQueue
  render := s.render.map RenderRecord.place
  image := s.image.map ImageJob.stage
  loads := s.loadJobs

/-- A buffer's owner fits its state (R62). -/
def useFits : BandState × Option Owner → Prop
  | (.free, o) => o = none
  | (.filling, o) => o ≠ none
  | (.ready, o) | (.printing, o) => o ≠ none ∧ o ≠ some .image
  | (.draining, o) => o = some .image

/-- The invariant on band buffers, on the view. -/
structure Bay.Sound (b : Bay) : Prop where
  fits : ∀ i, useFits (b.use i)
  filling : ∀ i, (b.use i).1 = .filling ↔ ∃ o, b.render = some (i, o)
  ready : ∀ i, (b.use i).1 = .ready ↔ i ∈ b.queue
  draining : ∀ i, (b.use i).1 = .draining ↔ b.image = some (.writing, some i)
  once : b.queue.Nodup
  printing : ∀ i j, (b.use i).1 = .printing → (b.use j).1 = .printing → i = j
  owner : ∀ i o, b.render = some (i, o) → (b.use i).2 = some o
  rendering : ∀ i, b.render = some (i, .image) → b.image = some (.rendering, some i)
  printLoad : b.loads.print ≠ some .image
  imageLoad : b.loads.image = some .image → ∃ x, b.image = some (.loading, x)

theorem BandBuffer.ownerFits_iff (b : BandBuffer) : b.ownerFits ↔ useFits (b.state, b.owner) := by
  unfold BandBuffer.ownerFits
  cases b.state <;> rfl

/-- A property of the value of a mapped option. -/
theorem map_eq_some_iff_of_stage {j : Option ImageJob} {x : ImagePhase} {o : Option BufferId} :
    j.map ImageJob.stage = some (x, o) ↔ ∃ k ∈ j, k.phase = x ∧ k.buffer = o := by
  simp [ImageJob.stage]

/-- The invariant of Safety.lean is that of the view. -/
theorem bandsSound_iff (s : State) : BandsSound s ↔ s.bay.Sound := by
  have filling (i : BufferId) : i ∈ s.render.map RenderRecord.buffer ↔
      ∃ o, s.bay.render = some (i, o) := by
    simp [State.bay, RenderRecord.place]
  have printLoad : (∀ ld ∈ s.loads.print, ld.job ≠ .image) ↔ s.bay.loads.print ≠ some .image := by
    simp [State.bay, State.loadJobs]
  have imageLoad : (∀ ld ∈ s.loads.image, ld.job = .image → ∃ j ∈ s.image, j.phase = .loading) ↔
      (s.bay.loads.image = some .image → ∃ x, s.bay.image = some (.loading, x)) := by
    simp [State.bay, State.loadJobs, ImageJob.stage]
  have draining (i : BufferId) : (∃ j ∈ s.image, j.phase = .writing ∧ j.buffer = some i) ↔
      s.bay.image = some (.writing, some i) := map_eq_some_iff_of_stage.symm
  have render : (∀ r ∈ s.render, (s.bands.get r.buffer).owner = some r.job ∧
      (r.job = .image → ∃ j ∈ s.image, j.phase = .rendering ∧ j.buffer = some r.buffer)) ↔
      (∀ i o, s.bay.render = some (i, o) → (s.bay.use i).2 = some o) ∧
        ∀ i, s.bay.render = some (i, .image) → s.bay.image = some (.rendering, some i) := by
    cases hr : s.render with
    | none => simp [State.bay, hr]
    | some r =>
      simp only [State.bay, hr, Option.map_some, RenderRecord.place, map_eq_some_iff_of_stage]
      constructor
      · intro h
        obtain ⟨hown, himage⟩ := h r rfl
        refine ⟨?_, ?_⟩
        · rintro i o ⟨⟩
          exact hown
        · intro i hi
          simp only [Option.some.injEq, Prod.mk.injEq] at hi
          obtain ⟨rfl, hjob⟩ := hi
          exact himage hjob
      · rintro ⟨hown, himage⟩ _ ⟨⟩
        exact ⟨hown _ _ rfl, fun hjob => himage _ (by rw [hjob])⟩
  unfold BandsSound
  simp only [filling, draining, render, printLoad, imageLoad, BandBuffer.ownerFits_iff]
  constructor
  · rintro ⟨hbuffers, honce, hprinting, ⟨howner, hrendering⟩, hprint, himage⟩
    exact ⟨fun i => (hbuffers i).1, fun i => (hbuffers i).2.1, fun i => (hbuffers i).2.2.1,
      fun i => (hbuffers i).2.2.2, honce, hprinting, howner, hrendering, hprint, himage⟩
  · intro h
    exact ⟨fun i => ⟨h.fits i, h.filling i, h.ready i, h.draining i⟩, h.once, h.printing,
      ⟨h.owner, h.rendering⟩, h.printLoad, h.imageLoad⟩

/-! ### Transitions of a buffer -/

namespace Bay

variable {b : Bay}

/-- READY and PRINTING buffers taken back or passed go FREE, and out of the queue (R67 to R69). -/
theorem Sound.free (h : b.Sound) {sel : BufferId → Bool}
    (hsel : ∀ i, sel i = true → (b.use i).1 = .ready ∨ (b.use i).1 = .printing) :
    Sound { b with
      use := fun i => if sel i then (.free, none) else b.use i
      queue := b.queue.filter fun i => !sel i } := by
  have kept {i : BufferId} {x : BandState} (hx : x ≠ .ready) (hx' : x ≠ .printing) (hf : x ≠ .free) :
      (if sel i then (BandState.free, none) else b.use i).1 = x ↔ (b.use i).1 = x := by
    split
    · next hs =>
      refine ⟨fun e => absurd e.symm hf, fun e => ?_⟩
      obtain e' | e' := hsel i hs
      · exact absurd (e.symm.trans e') hx
      · exact absurd (e.symm.trans e') hx'
    · rfl
  have was {i : BufferId} {x : BandState} (hf : x ≠ .free)
      (e : (if sel i then (BandState.free, none) else b.use i).1 = x) : (b.use i).1 = x := by
    split at e
    · exact absurd e.symm hf
    · exact e
  refine ⟨fun i => ?_, fun i => ?_, fun i => ?_, fun i => ?_, h.once.filter _, fun i j hi hj => ?_,
    fun i o hr => ?_, h.rendering, h.printLoad, h.imageLoad⟩
  · dsimp only
    split
    · rfl
    · exact h.fits i
  · exact (kept (by decide) (by decide) (by decide)).trans (h.filling i)
  · rw [List.mem_filter, ← h.ready i]
    cases hs : sel i <;> simp [hs]
  · exact (kept (by decide) (by decide) (by decide)).trans (h.draining i)
  · exact h.printing i j (was (by decide) hi) (was (by decide) hj)
  · have hfilling := (h.filling i).2 ⟨o, hr⟩
    have hnot : ¬sel i = true := fun hs => by
      obtain e | e := hsel i hs <;> rw [hfilling] at e <;> cases e
    exact (congrArg Prod.snd (if_neg hnot)).trans (h.owner i o hr)

/-- The READY buffer at the queue head becomes PRINTING (R66). -/
theorem Sound.print (h : b.Sound) {i : BufferId} {q : List BufferId} (hq : b.queue = i :: q)
    (hnone : ∀ j, (b.use j).1 ≠ .printing) :
    Sound { b with use := Function.update b.use i (.printing, (b.use i).2), queue := q } := by
  have hready : (b.use i).1 = .ready := (h.ready i).2 (by simp [hq])
  have honce := h.once
  rw [hq, List.nodup_cons] at honce
  have other {j : BufferId} {x : BandState} (hx : x ≠ .printing) (hx' : x ≠ .ready) :
      (Function.update b.use i (BandState.printing, (b.use i).2) j).1 = x ↔ (b.use j).1 = x := by
    by_cases e : j = i
    · subst e
      simp [hready, hx.symm, hx'.symm]
    · rw [Function.update_of_ne e]
  refine ⟨fun j => ?_, fun j => ?_, fun j => ?_, fun j => ?_, honce.2, fun j k hj hk => ?_,
    fun j o hr => ?_, h.rendering, h.printLoad, h.imageLoad⟩
  · dsimp only
    by_cases e : j = i
    · subst e
      have := h.fits j
      rw [← Prod.mk.eta (p := b.use j), hready] at this
      rw [Function.update_self]
      exact this
    · rw [Function.update_of_ne e]
      exact h.fits j
  · exact (other (by decide) (by decide)).trans (h.filling j)
  · dsimp only
    by_cases e : j = i
    · subst e
      simp [honce.1]
    · rw [Function.update_of_ne e, h.ready j, hq]
      simp [e]
  · exact (other (by decide) (by decide)).trans (h.draining j)
  · have only {j : BufferId}
        (hj : (Function.update b.use i (BandState.printing, (b.use i).2) j).1 = .printing) :
        j = i := by
      by_contra e
      rw [Function.update_of_ne e] at hj
      exact hnone j hj
    rw [only hj, only hk]
  · have hne : j ≠ i := by
      rintro rfl
      have := (h.filling j).2 ⟨o, hr⟩
      rw [hready] at this
      cases this
    dsimp only
    rw [Function.update_of_ne hne]
    exact h.owner j o hr

/-- One buffer replaced, where neither its old nor its new state is READY or PRINTING: the queue and the
PRINTING buffer are as they were, and the rest is to be shown of the buffers that render and drain. -/
theorem Sound.replace (h : b.Sound) {i : BufferId} {x : BandState × Option Owner}
    {render : Option (BufferId × Owner)} {image : Option (ImagePhase × Option BufferId)}
    (hold : (b.use i).1 ≠ .ready ∧ (b.use i).1 ≠ .printing)
    (hnew : x.1 ≠ .ready ∧ x.1 ≠ .printing) (hfits : useFits x)
    (hfilling : ∀ j, (∃ o, render = some (j, o)) ↔
      if j = i then x.1 = .filling else (b.use j).1 = .filling)
    (hdraining : ∀ j, image = some (.writing, some j) ↔
      if j = i then x.1 = .draining else (b.use j).1 = .draining)
    (howner : ∀ j o, render = some (j, o) → (if j = i then x else b.use j).2 = some o)
    (hrendering : ∀ j, render = some (j, .image) → image = some (.rendering, some j))
    (hload : b.loads.image = some .image → ∃ y, image = some (.loading, y)) :
    Sound { b with use := Function.update b.use i x, render := render, image := image } := by
  have at_ (j : BufferId) : Function.update b.use i x j = if j = i then x else b.use j := by
    rw [Function.update_apply]
  refine ⟨fun j => ?_, fun j => ?_, fun j => ?_, fun j => ?_, h.once, fun j k hj hk => ?_,
    fun j o hr => ?_, hrendering, h.printLoad, hload⟩
  · dsimp only
    rw [at_]
    split
    · exact hfits
    · exact h.fits j
  · dsimp only
    rw [hfilling, at_]
    split <;> rfl
  · dsimp only
    rw [at_, ← h.ready j]
    split
    · next e =>
      subst e
      simp [hold.1, hnew.1]
    · rfl
  · dsimp only
    rw [hdraining, at_]
    split <;> rfl
  · have was {j : BufferId} (hj : (Function.update b.use i x j).1 = .printing) :
        (b.use j).1 = .printing := by
      rw [at_] at hj
      split at hj
      · exact absurd hj hnew.2
      · exact hj
    exact h.printing j k (was hj) (was hk)
  · dsimp only
    rw [at_]
    exact howner j o hr

/-- A FREE buffer is claimed for a band (R63). -/
theorem Sound.claim (h : b.Sound) {i : BufferId} {o : Owner} (hfree : (b.use i).1 = .free)
    (hidle : b.render = none) (himage : o = .image → b.image = some (.rendering, some i)) :
    Sound { b with use := Function.update b.use i (.filling, some o), render := some (i, o) } := by
  refine h.replace (by simp [hfree]) (by simp) (by simp [useFits]) (fun j => ?_) (fun j => ?_)
    (fun j o' hr => ?_) (fun j hr => ?_) h.imageLoad
  · have hnot := (h.filling j).not.2 (by simp [hidle])
    split
    · next e => simp [e]
    · next e => simp [hnot, Ne.symm e]
  · rw [← h.draining j]
    split
    · next e => simp [e, hfree]
    · rfl
  · simp only [Option.some.injEq, Prod.mk.injEq] at hr
    obtain ⟨rfl, rfl⟩ := hr
    rw [if_pos rfl]
  · simp only [Option.some.injEq, Prod.mk.injEq] at hr
    obtain ⟨rfl, ho⟩ := hr
    exact himage ho

/-- With its render ended or cut, only the render's buffer was FILLING. -/
theorem Sound.filling_only (h : b.Sound) {i : BufferId} {o : Owner} (hr : b.render = some (i, o)) :
    (b.use i).1 = .filling ∧ ∀ j, j ≠ i → (b.use j).1 ≠ .filling := by
  refine ⟨(h.filling i).2 ⟨o, hr⟩, fun j hj e => ?_⟩
  obtain ⟨o', hr'⟩ := (h.filling j).1 e
  simp only [hr, Option.some.injEq, Prod.mk.injEq] at hr'
  exact hj hr'.1.symm

/-- The buffer of a band render cut, or passed before its end, goes FREE (R64, R76). -/
theorem Sound.release (h : b.Sound) {i : BufferId} {o : Owner} (hr : b.render = some (i, o)) :
    Sound { b with use := Function.update b.use i (.free, none), render := none } := by
  obtain ⟨hi, hothers⟩ := h.filling_only hr
  refine h.replace (by simp [hi]) (by simp) rfl (fun j => ?_) (fun j => ?_) (by simp) (by simp)
    h.imageLoad
  · split
    · simp
    · next e => simp [hothers j e]
  · rw [← h.draining j]
    split
    · next e => simp [e, hi]
    · rfl

/-- The buffer of a label's rendered band goes READY at the queue's tail (R64). -/
theorem Sound.queue (h : b.Sound) {i : BufferId} {o : Owner} (hr : b.render = some (i, o))
    (ho : o ≠ .image) :
    Sound { b with
      use := Function.update b.use i (.ready, (b.use i).2)
      queue := b.queue ++ [i]
      render := none } := by
  obtain ⟨hi, hothers⟩ := h.filling_only hr
  have hnew : i ∉ b.queue := fun hm => by
    have := (h.ready i).2 hm
    rw [hi] at this
    cases this
  have other {j : BufferId} {x : BandState} (hx : x ≠ .ready) (hx' : x ≠ .filling) :
      (Function.update b.use i (BandState.ready, (b.use i).2) j).1 = x ↔ (b.use j).1 = x := by
    by_cases e : j = i
    · subst e
      simp [hi, hx.symm, hx'.symm]
    · rw [Function.update_of_ne e]
  refine ⟨fun j => ?_, fun j => ?_, fun j => ?_, fun j => ?_, ?_, fun j k hj hk => ?_, by simp,
    by simp, h.printLoad, h.imageLoad⟩
  · dsimp only
    by_cases e : j = i
    · subst e
      rw [Function.update_self, h.owner j o hr]
      simp [useFits, ho]
    · rw [Function.update_of_ne e]
      exact h.fits j
  · dsimp only
    by_cases e : j = i
    · subst e
      simp
    · rw [Function.update_of_ne e]
      simp [hothers j e]
  · dsimp only
    by_cases e : j = i
    · subst e
      simp
    · rw [Function.update_of_ne e, h.ready j]
      simp [e]
  · exact (other (by decide) (by decide)).trans (h.draining j)
  · exact List.nodup_append.2 ⟨h.once, List.nodup_singleton _, by
      rintro x hx y hy rfl
      exact hnew (List.mem_singleton.1 hy ▸ hx)⟩
  · exact h.printing j k ((other (by decide) (by decide)).1 hj) ((other (by decide) (by decide)).1 hk)

/-- The buffer of the image's rendered band goes DRAINING, its job WRITING (R65, R128). -/
theorem Sound.drain (h : b.Sound) {i : BufferId} (hr : b.render = some (i, .image)) :
    Sound { b with
      use := Function.update b.use i (.draining, (b.use i).2)
      render := none
      image := some (.writing, some i) } := by
  obtain ⟨hi, hothers⟩ := h.filling_only hr
  have himage := h.rendering i hr
  refine h.replace (by simp [hi]) (by simp) (by simp [useFits, h.owner i _ hr]) (fun j => ?_)
    (fun j => ?_) (by simp) (by simp) (fun hl => ?_)
  · split
    · simp
    · next e => simp [hothers j e]
  · have hnot := (h.draining j).not.2 (by simp [himage])
    split
    · next e => simp [e]
    · next e => simp [hnot, Ne.symm e]
  · obtain ⟨x, hx⟩ := h.imageLoad hl
    simp [himage] at hx

/-- The buffer of a band written, or of a job that leaves, goes FREE (R131 to R134). -/
theorem Sound.written (h : b.Sound) {i : BufferId} (hi : b.image = some (.writing, some i))
    {image : Option (ImagePhase × Option BufferId)} (hnew : ∀ x, image ≠ some (.writing, x)) :
    Sound { b with use := Function.update b.use i (.free, none), image := image } := by
  have hdraining := (h.draining i).2 hi
  refine h.replace (by simp [hdraining]) (by simp) rfl (fun j => ?_) (fun j => ?_) (fun j o hr => ?_)
    (fun j hr => ?_) (fun hl => ?_)
  · rw [← h.filling j]
    split
    · next e => simp [e, hdraining]
    · rfl
  · split
    · simp [hnew]
    · next e =>
      have hnot : (b.use j).1 ≠ .draining := fun hd => by
        have := (h.draining j).1 hd
        simp only [hi, Option.some.injEq, Prod.mk.injEq, true_and] at this
        exact e this.symm
      simp [hnew, hnot]
  · have hne : j ≠ i := by
      rintro rfl
      have := (h.filling j).2 ⟨o, hr⟩
      rw [hdraining] at this
      cases this
    rw [if_neg hne]
    exact h.owner j o hr
  · have := h.rendering j hr
    simp [hi] at this
  · obtain ⟨x, hx⟩ := h.imageLoad hl
    simp [hi] at hx

/-- The image job made, moved on or gone while it neither renders nor drains a buffer. -/
theorem Sound.setImage (h : b.Sound) {image : Option (ImagePhase × Option BufferId)}
    (hold : ∀ i, b.image ≠ some (.writing, some i)) (hidle : ∀ i, b.image ≠ some (.rendering, some i))
    (hnew : ∀ x, image ≠ some (.writing, x))
    (hload : b.loads.image = some .image → ∃ x, image = some (.loading, x)) :
    Sound { b with image := image } :=
  ⟨h.fits, h.filling, h.ready, fun i => (h.draining i).trans (by simp [hold, hnew]), h.once, h.printing,
    h.owner, fun i hr => absurd (h.rendering i hr) (hidle i), h.printLoad, hload⟩

/-- What the loads serve changed. -/
theorem Sound.setLoads (h : b.Sound) {loads : PerRing (Option LoadJob)}
    (hprint : loads.print ≠ some .image)
    (himage : loads.image = some .image → ∃ x, b.image = some (.loading, x)) :
    Sound { b with loads := loads } :=
  ⟨h.fits, h.filling, h.ready, h.draining, h.once, h.printing, h.owner, h.rendering, hprint, himage⟩

end Bay

end Sys2Proof.Machine

/-! SUPPORT. The band buffers through every effect (R62, R70, R75, R127): what each operation makes of the
view of P9's kind, and from that the invariant on band buffers (O60). -/

namespace Sys2Proof.Machine

/-! ### Operations that keep the view -/

section Keep

variable (s : State)

@[simp] theorem State.setHead_bay (h : HeadPort) : (s.setHead h).bay = s.bay := rfl
@[simp] theorem State.setWalker_bay (r : Ring) (x : WalkerContext) : (s.setWalker r x).bay = s.bay := rfl
@[simp] theorem State.setTable_bay (r : Ring) (x : List TableEntry) : (s.setTable r x).bay = s.bay := rfl
@[simp] theorem State.setLabels_bay (l : List LabelEntry) : (s.setLabels l).bay = s.bay := rfl
@[simp] theorem State.setRenderState_bay (r : Ring) (x : RenderState) :
    (s.setRenderState r x).bay = s.bay := rfl
@[simp] theorem State.updateLabel_bay (i : Half) (f : LabelEntry → LabelEntry) :
    (s.updateLabel i f).bay = s.bay := rfl
@[simp] theorem State.setRenderStatus_bay (i : Half) (x : RenderStatus) :
    (s.setRenderStatus i x).bay = s.bay := rfl
@[simp] theorem State.emptyWalker_bay (r : Ring) : (s.emptyWalker r).bay = s.bay := rfl
@[simp] theorem State.setPendingObject_bay (r : Ring) (o : Option PendingObject) :
    (s.setPendingObject r o).bay = s.bay := rfl
@[simp] theorem State.finishRetire_bay (r : Ring) (i : Half) (res : Results) :
    (s.finishRetire r i res).bay = s.bay := rfl
@[simp] theorem State.takeProper_bay (r : Ring) (k : Byte) (tag : Half) (res : Option Results) :
    (s.takeProper r k tag res).bay = s.bay := rfl

/-- The image job changed with its phase and buffer kept. -/
theorem State.updateImage_bay {f : ImageJob → ImageJob} (hf : ∀ j, (f j).stage = j.stage) :
    (s.updateImage f).bay = s.bay := by
  have : (s.image.map f).map ImageJob.stage = s.image.map ImageJob.stage := by
    rw [Option.map_map]
    exact congrArg (s.image.map ·) (funext hf)
  simp only [State.bay, State.updateImage, State.setImage_image, this]
  rfl

@[simp] theorem State.updateReport_bay (o : Owner) (f : JobReport → JobReport) :
    (s.updateReport o f).bay = s.bay := by
  cases o
  · rfl
  · exact s.updateImage_bay fun _ => rfl

@[simp] theorem State.setUpWalker_bay (r : Ring) (o : Owner) (a : Word) (n : Nat) :
    (s.setUpWalker r o a n).bay = s.bay := State.updateReport_bay _ o _

/-- A band render changed with its buffer and job kept. -/
theorem State.setRender_bay {x : Option RenderRecord}
    (h : x.map RenderRecord.place = s.bay.render) : (s.setRender x).bay = s.bay := by
  simp only [State.bay, State.setRender_render, h]
  rfl

@[simp] theorem State.setCutPending_bay : s.setCutPending.bay = s.bay := by
  refine s.setRender_bay ?_
  rw [Option.map_map]
  rfl

@[simp] theorem State.dropPendingPad_bay (i : Half) : (s.dropPendingPad i).bay = s.bay := by
  obtain ⟨_, h⟩ := s.dropPendingPad_frame i
  rw [h]
  rfl

@[simp] theorem State.stopLabelRender_bay (l : LabelEntry) : (s.stopLabelRender l).bay = s.bay := by
  unfold State.stopLabelRender
  split
  · simp
  · split <;> rfl

@[simp] theorem State.endImage_bay (st : Status) (fi : Half) : (s.endImage st fi).bay = s.bay := by
  have ended : (s.updateImage (ImageJob.atEnd st fi)).bay = s.bay := by
    refine s.updateImage_bay fun j => ?_
    unfold ImageJob.atEnd
    split <;> rfl
  unfold State.endImage
  dsimp only
  split
  · rw [State.setCutPending_bay, ended]
  · rw [State.emptyWalker_bay, ended]

theorem State.bay_of_jobs {s u : State} (h : u.jobs = s.jobs) : u.bay = s.bay := by
  simp only [State.jobs, Prod.mk.injEq] at h
  obtain ⟨-, -, hbands, hqueue, hrender, -, himage, hloads⟩ := h
  simp only [State.bay, hbands, hqueue, hrender, himage, hloads]

/-! ### Operations on the view -/

/-- A buffer replaced. -/
theorem State.setBand_bay (i : BufferId) (x : BandBuffer) :
    (s.setBand i x).bay =
      { s.bay with use := Function.update s.bay.use i (x.state, x.owner) } := by
  have : (s.setBand i x).bay.use = Function.update s.bay.use i (x.state, x.owner) := by
    funext j
    rw [Function.update_apply]
    simp only [State.bay, State.setBand_bands, Bands.get_set]
    split <;> rfl
  rw [← this]
  rfl

/-- A buffer's rows replaced. -/
theorem State.setBand_bay_of_use {i : BufferId} {x : BandBuffer}
    (h : (x.state, x.owner) = s.bay.use i) : (s.setBand i x).bay = s.bay := by
  rw [State.setBand_bay, h, Function.update_eq_self]

theorem State.freeBand_bay (i : BufferId) :
    (s.freeBand i).bay = { s.bay with use := Function.update s.bay.use i (.free, none) } :=
  s.setBand_bay i _

/-- Selected buffers freed. -/
theorem State.freeBands_bay (sel : BufferId → BandBuffer → Bool) :
    (s.freeBands sel).bay = { s.bay with
      use := fun i => if sel i (s.bands.get i) then (.free, none) else s.bay.use i
      queue := s.printQueue.filter fun i => !sel i (s.bands.get i) } := by
  have : (s.freeBands sel).bay.use =
      fun i => if sel i (s.bands.get i) then (.free, none) else s.bay.use i := by
    funext i
    show (((s.freeBands sel).bands.get i).state, ((s.freeBands sel).bands.get i).owner) = _
    rw [State.freeBands_get]
    split <;> rfl
  rw [← this]
  rfl

end Keep

variable {s : State}

/-! ### Ends of jobs -/

/-- READY and PRINTING buffers freed. -/
theorem State.freeBands_sound (hs : s.bay.Sound) {sel : BufferId → BandBuffer → Bool}
    (hsel : ∀ i b, sel i b = true → b.state = .ready ∨ b.state = .printing) :
    (s.freeBands sel).bay.Sound := by
  rw [State.freeBands_bay]
  exact hs.free (sel := fun i => sel i (s.bands.get i)) fun i h => hsel i _ h

theorem State.takeBack_sound (hs : s.bay.Sound) (o : Owner) : (s.takeBack o).bay.Sound := by
  refine State.freeBands_sound hs fun i b h => ?_
  rw [decide_eq_true_eq] at h
  exact h.2

theorem State.freePassed_sound (hs : s.bay.Sound) (i : Half) (n : Nat) :
    (s.freePassed i n).bay.Sound := by
  refine State.freeBands_sound hs fun i b h => ?_
  rw [decide_eq_true_eq] at h
  obtain ⟨-, -, h⟩ := h
  exact h.imp_right And.left

theorem State.endLabel_sound (hs : s.bay.Sound) (i : Half) (st : Status) (fi : Half) :
    (s.endLabel i st fi).bay.Sound := by
  unfold State.endLabel
  split
  · exact hs
  · split
    · exact hs
    · rw [State.stopLabelRender_bay, State.dropPendingPad_bay]
      exact State.takeBack_sound (s := s.updateLabel i (LabelEntry.atEnd st fi)) hs _

theorem State.endJob_sound (hs : s.bay.Sound) (o : Owner) (st : Status) (fi : Half) :
    (s.endJob o st fi).bay.Sound := by
  cases o
  · exact State.endLabel_sound hs _ _ _
  · exact (s.endImage_bay st fi) ▸ hs

theorem State.abortLabels_sound (hs : s.bay.Sound) : s.abortLabels.bay.Sound := by
  have fold (ls : List LabelEntry) : ∀ t : State, t.bay.Sound →
      (ls.foldl (fun t l => t.endLabel l.ringIndex .aborted noObject) t).bay.Sound := by
    induction ls with
    | nil => exact fun _ ht => ht
    | cons l ls ih => exact fun t ht => ih _ (State.endLabel_sound ht _ _ _)
  exact fold s.labels s hs

/-- The image job gone. -/
theorem State.imageLeaves_bay (s : State) : s.imageLeaves.bay = { s.bay with image := none } := by
  unfold State.imageLeaves
  split
  · next h => simp [State.bay, h]
  · rfl

/-- The image job leaves from LOADING, with its load gone, from REQUESTING or RENDERING, with its render
gone, or from ENDING. -/
theorem State.imageLeaves_sound (hs : s.bay.Sound)
    (hstage : ∀ i, s.bay.image ≠ some (.writing, some i))
    (hrender : ∀ i, s.bay.image ≠ some (.rendering, some i))
    (hload : s.bay.loads.image ≠ some .image) : s.imageLeaves.bay.Sound := by
  rw [State.imageLeaves_bay]
  exact hs.setImage hstage hrender (by simp) fun h => absurd h hload

/-- A WRITING image job leaves with its buffer. -/
theorem State.dropImage_sound (hs : s.bay.Sound) {i : BufferId}
    (hi : s.bay.image = some (.writing, some i)) : (s.dropImage i).bay.Sound := by
  unfold State.dropImage
  rw [State.imageLeaves_bay, State.freeBand_bay]
  exact hs.written hi (by simp)

/-- No load serves an image job that is past LOADING. -/
theorem Bay.Sound.no_load {b : Bay} (h : b.Sound) {x : ImagePhase} {o : Option BufferId}
    (himage : b.image = some (x, o)) (hx : x ≠ .loading) : b.loads.image ≠ some .image := by
  intro hload
  obtain ⟨y, hy⟩ := h.imageLoad hload
  simp only [himage, Option.some.injEq, Prod.mk.injEq] at hy
  exact hx hy.1

theorem State.bay_image {j : ImageJob} (h : s.image = some j) :
    s.bay.image = some (j.phase, j.buffer) := by simp [State.bay, h, ImageJob.stage]

theorem State.abortImageJob_sound (hs : s.bay.Sound) : s.abortImageJob.bay.Sound := by
  have hended : (s.endImage .aborted noObject).bay = s.bay := s.endImage_bay _ _
  have ended : (s.endImage .aborted noObject).bay.Sound := hended ▸ hs
  unfold State.abortImageJob
  split
  · exact hs
  · next j hj =>
    have hstage : s.bay.image = some (j.phase, j.buffer) := State.bay_image hj
    have leaves {x : ImagePhase} {o : Option BufferId} (hx : s.bay.image = some (x, o))
        (hwriting : ∀ i, (x, o) ≠ (.writing, some i)) (hrendering : x ≠ .rendering)
        (hloading : x ≠ .loading) : (s.endImage .aborted noObject).imageLeaves.bay.Sound := by
      refine State.imageLeaves_sound ended (fun i h => ?_) (fun i h => ?_)
        (ended.no_load (hended ▸ hx) hloading)
      · rw [hended, hx] at h
        exact hwriting i (Option.some.inj h)
      · rw [hended, hx] at h
        exact hrendering (congrArg Prod.fst (Option.some.inj h))
    split
    · exact hs
    · dsimp only
      split
      · exact ended
      · exact ended
      · exact ended
      · next hphase =>
        rw [hphase] at hstage
        exact leaves hstage (by simp) (by simp) (by simp)
      · next hphase =>
        rw [hphase] at hstage
        split
        · next hbuffer => exact State.dropImage_sound ended (hended ▸ hbuffer ▸ hstage)
        · next hbuffer => exact leaves (hbuffer ▸ hstage) (by simp) (by simp) (by simp)
        · exact ended

/-! ### The print path -/

theorem Bands.printingBuffer_none {b : Bands} (h : b.printingBuffer = none) (i : BufferId) :
    (b.get i).state ≠ .printing := by
  have := List.find?_eq_none.1 h i (mem_bufferIds i)
  simpa using this

theorem State.headTake_sound (hs : s.bay.Sound) {i : BufferId} {q : List BufferId}
    (hq : s.printQueue = i :: q) (hnone : s.bands.printingBuffer = none) :
    (s.headTake i).bay.Sound := by
  have : (s.headTake i).bay = { s.bay with
      use := Function.update s.bay.use i (.printing, (s.bay.use i).2), queue := q } := by
    show { (s.setBand i _).bay with queue := s.printQueue.tail } = _
    rw [State.setBand_bay, hq]
    rfl
  rw [this]
  exact hs.print hq fun j => Bands.printingBuffer_none hnone j

/-- The queue head is a source only while no buffer is PRINTING (R66). -/
theorem State.rowSource_queueHead {l : LabelEntry} {i : BufferId}
    (h : s.rowSource l = .queueHead i) :
    s.bands.printingBuffer = none ∧ ∃ q, s.printQueue = i :: q := by
  unfold State.rowSource at h
  split at h
  · split at h <;> cases h
  · next hnone hq =>
    split at h
    · cases h
      exact ⟨hnone, _, hq⟩
    · cases h
  · cases h

theorem State.rowStep_sound (hs : s.bay.Sound) (p : SetupParams) (l : LabelEntry) :
    (s.rowStep p l).bay.Sound := by
  unfold State.rowStep
  split
  · exact hs
  · exact hs
  · unfold State.countStep
    dsimp only
    split
    · exact State.endLabel_sound (s := s.updateLabel l.ringIndex _) hs _ _ _
    · exact hs
  · split
    · exact hs
    · split
      · unfold State.dueRow
        split
        · exact hs
        · next h =>
          obtain ⟨hnone, q, hq⟩ := State.rowSource_queueHead h
          exact State.headTake_sound hs hq hnone
        · split
          · unfold State.padRow
            exact State.freePassed_sound (by simpa using hs) _ _
          · exact State.endLabel_sound hs _ _ _
      · unfold State.earlyStep
        split
        · unfold State.padEarly
          exact State.freePassed_sound (by simpa using hs) _ _
        · exact State.endLabel_sound hs _ _ _

theorem State.endDelivery_sound (hs : s.bay.Sound) (p : SetupParams) (d : Delivery) :
    (s.endDelivery p d).bay.Sound := by
  have freed {t : State} (ht : t.bay.Sound) : (t.freeDelivered d.label).bay.Sound := by
    unfold State.freeDelivered
    split
    · exact State.freePassed_sound ht _ _
    · exact ht
  have after {t : State} (ht : t.bay.Sound) : (t.afterDelivery d.label).bay.Sound := by
    obtain ⟨q, -, -, h⟩ | ⟨-, ⟨l, -, -, -, h⟩ | ⟨-, h⟩⟩ := t.afterDelivery_cases d.label <;> rw [h]
    · exact ht
    · exact State.endLabel_sound ht _ _ _
    · exact ht
  unfold State.endDelivery
  exact after (freed (by simpa using hs))

theorem State.endBurnMain_sound (hs : s.bay.Sound) (p : SetupParams) (d : Delivery) :
    (s.endBurnMain p d).bay.Sound := by
  unfold State.endBurnMain
  split
  · exact hs
  · exact State.endDelivery_sound hs p d

/-! ### The walker and the rasterizer -/

theorem State.faultRender_sound (hs : s.bay.Sound) {r : RenderRecord}
    (hr : s.bay.render = some r.place) (st : Status) (k : Nat) :
    (s.faultRender r st k).bay.Sound :=
  State.endJob_sound (by rw [State.setRender_bay _ (by rw [hr]; rfl)]; exact hs) _ _ _

theorem State.keepCanvas_bay (s : State) (r : RenderRecord) (c : Canvas) :
    (s.keepCanvas r c).bay = s.bay := by
  rw [State.keepCanvas, State.updateReport_bay]
  exact s.setBand_bay_of_use rfl

theorem State.applyPainting_sound (hs : s.bay.Sound) {r : RenderRecord}
    (hr : s.bay.render = some r.place) (t : TableResult) : (s.applyPainting r t).bay.Sound := by
  have kept (table : List TableEntry) (c : Canvas) :
      ((s.setTable r.side table).keepCanvas r c).bay = s.bay := by rw [State.keepCanvas_bay]; rfl
  have set (table : List TableEntry) (c : Canvas) {x : RenderRecord} (hx : x.place = r.place) :
      (((s.setTable r.side table).keepCanvas r c).setRender (some x)).bay.Sound := by
    rw [State.setRender_bay _ (by rw [kept, hr]; exact congrArg some hx), kept]
    exact hs
  cases t with
  | painted table c => exact set table c rfl
  | waits table place c a n w => exact set table c rfl
  | objectFault table place c =>
    exact State.faultRender_sound ((kept table c).symm ▸ hs) (by rw [kept, hr]; rfl) _ _

theorem State.startPaint_sound (hs : s.bay.Sound) {r : RenderRecord}
    (hr : s.bay.render = some r.place) (p : SetupParams) : (s.startPaint p r).bay.Sound :=
  State.applyPainting_sound hs hr _

theorem State.nextObject_sound (hs : s.bay.Sound) {r : RenderRecord}
    (hr : s.bay.render = some r.place) (p : SetupParams) : (s.nextObject p r).bay.Sound := by
  unfold State.nextObject
  dsimp only
  split
  · rw [State.setRender_bay _ (by rw [hr]; rfl)]
    exact hs
  · exact State.startPaint_sound hs hr p

theorem State.considerObject_sound (hs : s.bay.Sound) {r : RenderRecord}
    (hr : s.bay.render = some r.place) (p : SetupParams) (o : PendingObject) :
    (s.considerObject p r o).bay.Sound := by
  have counted (t : State) (ht : t.bay = s.bay) (late : Bool) :
      ((t.updateReport r.job (JobReport.admission late)).nextObject p r).bay.Sound := by
    have e := (t.updateReport_bay r.job (JobReport.admission late)).trans ht
    exact State.nextObject_sound (e.symm ▸ hs) (by rw [e, hr]) p
  unfold State.considerObject
  dsimp only
  split
  · exact State.startPaint_sound (s := s.setPendingObject r.side (some o)) hs hr p
  · split
    · exact counted (s.setPendingObject r.side none) rfl _
    · split
      · exact counted ((s.setPendingObject r.side none).setTable r.side _) rfl _
      · exact State.faultRender_sound (s := s.setPendingObject r.side none)
          (r := { r with step := .admission }) hs hr _ _

theorem State.startAdmission_sound (hs : s.bay.Sound) {r : RenderRecord}
    (hr : s.bay.render = some r.place) (p : SetupParams) : (s.startAdmission p r).bay.Sound := by
  unfold State.startAdmission
  split
  · exact State.considerObject_sound hs hr p _
  · exact State.nextObject_sound hs hr p

theorem State.recordRead_sound (hs : s.bay.Sound) {r : RenderRecord}
    (hr : s.bay.render = some r.place) (p : SetupParams) (d : BitVec 256) :
    (s.recordRead p r d).bay.Sound := by
  unfold State.recordRead
  dsimp only
  split
  · exact State.faultRender_sound hs hr _ _
  · exact State.considerObject_sound (s := s.setWalker r.side _) hs hr p _

/-- A grant claims a FREE buffer, and for the image one that its job has named (R63, R127). -/
theorem State.grant_sound (hs : s.bay.Sound) {i : BufferId} (hfree : (s.bands.get i).state = .free)
    (hidle : s.render = none) (p : SetupParams) (side : Ring) {o : Owner}
    (himage : o = .image → s.bay.image = some (.rendering, some i)) (k rows : Nat) :
    (s.grant p side o i k rows).bay.Sound := by
  have hbegun : (s.beginRender p side o i k rows).bay = { s.bay with
      use := Function.update s.bay.use i (.filling, some o), render := some (i, o) } := by
    show { (s.setBand i _).bay with render := some (i, o) } = _
    rw [State.setBand_bay]
  have begun : (s.beginRender p side o i k rows).bay.Sound := by
    rw [hbegun]
    exact hs.claim hfree (by simp [State.bay, hidle]) himage
  obtain ⟨-, h⟩ | ⟨-, h, -⟩ := s.grant_cases p side o i k rows <;> rw [h]
  · exact begun
  · exact State.startAdmission_sound begun (by rw [hbegun]; rfl) p

theorem Bands.lowestFree_free {b : Bands} {i : BufferId} (h : b.lowestFree = some i) :
    (b.get i).state = .free := by simpa using List.find?_some h

/-- The image job asks for a band in REQUESTING (R72). -/
theorem State.imageRequest_some {p : SetupParams} {j : ImageJob} (h : s.imageRequest p = some j) :
    s.image = some j ∧ j.phase = .requesting := by
  unfold State.imageRequest at h
  split at h
  · next k hk =>
    split at h
    · next hrequest =>
      cases h
      exact ⟨hk, hrequest.1⟩
    · cases h
  · cases h

theorem State.arbitrate_sound (hs : s.bay.Sound) (hidle : s.render = none) (p : SetupParams) :
    (s.arbitrate p).bay.Sound := by
  unfold State.arbitrate
  split
  · exact hs
  · next i hi =>
    have hfree := Bands.lowestFree_free hi
    split
    · exact State.grant_sound hs hfree hidle p _ (by rintro ⟨⟩) _ _
    · split
      · next j hj =>
        obtain ⟨hjob, hphase⟩ := State.imageRequest_some hj
        have hstage := State.bay_image hjob
        rw [hphase] at hstage
        have hclaim : (s.updateImage (ImageJob.claim i)).bay =
            { s.bay with image := some (.rendering, some i) } := by
          simp [State.bay, State.updateImage, hjob, ImageJob.claim, ImageJob.stage, State.loadJobs]
        refine State.grant_sound (s := s.updateImage (ImageJob.claim i)) ?_ hfree hidle p _
          (fun _ => by rw [hclaim]) _ _
        rw [hclaim]
        exact hs.setImage (by simp [hstage]) (by simp [hstage]) (by simp)
          fun h => absurd h (hs.no_load hstage (by decide))
      · exact hs

theorem State.bay_render {r : RenderRecord} (h : s.render = some r) :
    s.bay.render = some r.place := by simp [State.bay, h]

theorem State.discardRead_sound (hs : s.bay.Sound) {r : RenderRecord}
    (hr : s.bay.render = some r.place) : (s.discardRead r).bay.Sound := by
  unfold State.discardRead
  rw [State.setRender_bay _ (by rw [hr]; rfl)]
  exact hs

theorem State.endRecordFetch_sound (hs : s.bay.Sound) {r : RenderRecord} (hr : s.render = some r)
    (p : SetupParams) (result : BusRead (BitVec 256)) :
    (s.endRecordFetch p r result).bay.Sound := by
  have hplace := State.bay_render hr
  unfold State.endRecordFetch
  split
  · exact State.discardRead_sound hs hplace
  · split
    · exact State.faultRender_sound hs hplace _ _
    · exact State.recordRead_sound hs hplace p _

theorem State.endObjectRead_sound (hs : s.bay.Sound) {r : RenderRecord} (hr : s.render = some r)
    (p : SetupParams) (work : PaintWork) (result : BusRead (List Byte)) :
    (s.endObjectRead p r work result).bay.Sound := by
  have hplace := State.bay_render hr
  unfold State.endObjectRead
  split
  · exact State.discardRead_sound hs hplace
  · split
    · exact State.faultRender_sound hs hplace _ _
    · exact State.applyPainting_sound hs hplace _

/-- The end of a label's band render places its buffer (R64). -/
theorem State.placePrintBand_sound (hs : s.bay.Sound) {r : RenderRecord}
    (hr : s.bay.render = some r.place) (hjob : r.job ≠ .image) (n : Nat) :
    ((s.placePrintBand r n).setRender none).bay.Sound := by
  unfold State.placePrintBand
  split
  · show Bay.Sound { (s.freeBand r.buffer).bay with render := none }
    rw [State.freeBand_bay]
    exact hs.release hr
  · have : (((s.setBand r.buffer { s.bands.get r.buffer with state := .ready }).setPrintQueue
        (s.printQueue ++ [r.buffer])).setRender none).bay = { s.bay with
          use := Function.update s.bay.use r.buffer (.ready, (s.bay.use r.buffer).2)
          queue := s.bay.queue ++ [r.buffer]
          render := none } := by
      show { (s.setBand r.buffer _).bay with queue := s.printQueue ++ [r.buffer], render := none } = _
      rw [State.setBand_bay]
      rfl
    rw [this]
    exact hs.queue hr hjob

theorem State.endRender_sound (hs : s.bay.Sound) {r : RenderRecord} (hr : s.render = some r)
    (p : SetupParams) : (s.endRender p r).bay.Sound := by
  have hplace := State.bay_render hr
  unfold State.endRender
  dsimp only
  split
  · next i hjob =>
    split
    · next l _ =>
      have placed := State.placePrintBand_sound
        (s := s.setTable r.side (retire r.last (s.tables.get r.side))) hs hplace (by simp [hjob])
        l.cursor
      unfold State.endPrintRender
      dsimp only
      split
      · rw [State.emptyWalker_bay, State.setRenderStatus_bay, State.updateLabel_bay]
        exact placed
      · rw [State.updateLabel_bay]
        exact placed
    · exact hs
  · next hjob =>
    split
    · next j hj =>
      have himage := hs.rendering r.buffer (by rw [hplace, ← hjob]; rfl)
      rw [State.bay_image hj] at himage
      simp only [Option.some.injEq, Prod.mk.injEq] at himage
      have drained (x : ImageJob) (hx : x.stage = (.writing, some r.buffer)) :
          ((((s.setTable r.side (retire r.last (s.tables.get r.side))).setBand r.buffer
            { s.bands.get r.buffer with state := .draining }).setRender none).setImage
              (some x)).bay.Sound := by
        show Bay.Sound { (State.setBand _ r.buffer _).bay with
          render := none, image := some x.stage }
        rw [State.setBand_bay, hx]
        exact hs.drain (by rw [hplace, ← hjob]; rfl)
      unfold State.endImageRender
      dsimp only
      split
      · exact drained _ (by simp [ImageJob.stage, himage.2])
      · exact drained _ (by simp [ImageJob.stage, himage.2])
    · exact hs

theorem State.cutRender_sound (hs : s.bay.Sound) {r : RenderRecord} (hr : s.render = some r) :
    (s.cutRender r).bay.Sound := by
  have hplace := State.bay_render hr
  have hcut : (((s.freeBand r.buffer).setRender none).emptyWalker r.side).bay = { s.bay with
      use := Function.update s.bay.use r.buffer (.free, none), render := none } := by
    show { (s.freeBand r.buffer).bay with render := none } = _
    rw [State.freeBand_bay]
  have cut : (((s.freeBand r.buffer).setRender none).emptyWalker r.side).bay.Sound := by
    rw [hcut]
    exact hs.release hplace
  unfold State.cutRender
  dsimp only
  split
  · exact cut
  · next hjob =>
    have himage := hs.rendering r.buffer (by rw [hplace, ← hjob]; rfl)
    rw [State.imageLeaves_bay, hcut]
    have gone := hs.release hplace
    refine ⟨gone.fits, gone.filling, gone.ready, fun i => ?_, gone.once, gone.printing, gone.owner,
      by simp, gone.printLoad, fun h => absurd h (hs.no_load himage (by decide))⟩
    exact (gone.draining i).trans (by simp [himage])

/-! ### Writeback -/

theorem State.setImage_bay {j : ImageJob} (h : s.image = some j) {x : ImageJob}
    (hx : x.stage = j.stage) : (s.setImage (some x)).bay = s.bay := by
  simp only [State.bay, State.setImage_image, h, Option.map_some, hx]
  rfl

theorem State.endRowWrite_sound (hs : s.bay.Sound) {j : ImageJob} {i : BufferId}
    (hj : s.image = some j) (hi : j.buffer = some i) (hphase : j.phase = .writing) (p : SetupParams)
    (w : RowWrite) (result : BusWrite) : (s.endRowWrite p j i w result).bay.Sound := by
  have hstage := State.bay_image hj
  rw [hphase, hi] at hstage
  have dropped (t : State) (ht : t.bay = s.bay) : (t.dropImage i).bay.Sound :=
    State.dropImage_sound (ht.symm ▸ hs) (by rw [ht, hstage])
  unfold State.endRowWrite
  split
  · exact dropped s rfl
  · split
    · exact dropped _ (s.endImage_bay _ _)
    · unfold State.rowWritten
      dsimp only
      split
      · exact (State.setImage_bay hj (x := { j with
          write := some (j.rowWrite (s.bands.get i) (w.row + 1))
          signature := crcFeed j.signature w.bytes }) rfl).symm ▸ hs
      · split
        · exact dropped _ ((State.endImage_bay _ _ _).trans (State.setImage_bay hj rfl))
        · rw [State.freeBand_bay]
          exact hs.written hstage (image := some (.requesting, none)) (by simp)

/-! ### Takes and loads -/

theorem State.setLoad_bay (s : State) (r : Ring) (x : Option StateLoad) :
    (s.setLoad r x).bay = { s.bay with loads := s.loadJobs.set r (x.map StateLoad.job) } := by
  cases r <;> rfl

/-- A load that serves no image job, or none. -/
theorem State.setLoad_sound (hs : s.bay.Sound) (r : Ring) {x : Option StateLoad}
    (hx : x.map StateLoad.job ≠ some .image) : (s.setLoad r x).bay.Sound := by
  rw [State.setLoad_bay]
  cases r
  · exact hs.setLoads hx hs.imageLoad
  · exact hs.setLoads hs.printLoad fun h => absurd h hx

theorem State.takeLabel_sound (hs : s.bay.Sound) (d : BitVec 256) (f : LabelFields) :
    (s.takeLabel d f).bay.Sound := by
  unfold State.takeLabel
  dsimp only
  split
  · rw [State.setUpWalker_bay]
    exact hs
  · exact State.setLoad_sound (s := (s.takeProper _ _ _ _).setLabels _) hs _ (by simp)

/-- An IMAGE taken with its side idle: no image job was in flight (R126). -/
theorem State.takeImage_sound (hs : s.bay.Sound) (hidle : s.image = none) (d : BitVec 256)
    (f : ImageFields) : (s.takeImage d f).bay.Sound := by
  have hnone : s.bay.image = none := by simp [State.bay, hidle]
  have hload : s.bay.loads.image ≠ some .image := fun h => by
    obtain ⟨x, hx⟩ := hs.imageLoad h
    simp [hnone] at hx
  unfold State.takeImage
  dsimp only
  split
  · rw [State.setUpWalker_bay]
    exact hs.setImage (image := some (.requesting, none)) (by simp [hnone]) (by simp [hnone]) (by simp)
      fun h => absurd h hload
  · rw [State.setLoad_bay]
    exact (hs.setImage (image := some (.loading, none)) (by simp [hnone]) (by simp [hnone]) (by simp)
      fun h => absurd h hload).setLoads hs.printLoad fun _ => ⟨none, rfl⟩

theorem State.fetchStale_idle {r : Ring} (h : s.fetchStale r = false)
    (hactive : (s.rings.get r).state = .active) : s.sideIdle r = true := by
  simp only [State.fetchStale, hactive, Bool.or_eq_false_iff, decide_true, Bool.true_and,
    Bool.not_eq_false'] at h
  exact h.2

theorem State.endFetch_sound (hs : s.bay.Sound) (r : Ring) (marked : Bool)
    (result : BusRead (BitVec 256)) : (s.endFetch r marked result).bay.Sound := by
  obtain ⟨-, h⟩ | ⟨-, -, h⟩ | ⟨-, d, -, ⟨-, h⟩ | ⟨hfresh, hactive, h⟩ | ⟨-, -, h⟩⟩ :=
    s.endFetch_cases r marked result <;> rw [h]
  · exact hs
  · exact hs
  · exact hs
  · have hidle := State.fetchStale_idle hfresh hactive
    obtain ⟨-, himage⟩ := checkDescriptor_ring r d
    unfold State.takeChecked
    split
    · exact hs
    · exact hs
    · split
      · exact State.takeLabel_sound hs d _
      · exact hs
    · next f hf =>
      cases himage f hf
      simp only [State.sideIdle, Bool.and_eq_true, decide_eq_true_eq] at hidle
      exact State.takeImage_sound hs hidle.1 d f
    · exact State.setLoad_sound (s := s.takeProper r _ _ _) hs _ (by simp)
    · exact hs
  · rw [State.bay_of_jobs (s.takeFlushed_jobs r d)]
    exact hs

theorem State.bay_loads {r : Ring} {ld : StateLoad} {x : LoadJob} (hload : s.loads.get r = some ld)
    (hjob : ld.job = x) : s.bay.loads.get r = some x := by
  have : s.bay.loads.get r = (s.loads.get r).map StateLoad.job := by cases r <;> rfl
  rw [this, hload, ← hjob]
  rfl

/-- A load of the image job is the IMAGE ring's, and finds it LOADING. -/
theorem Bay.Sound.load_image (hs : s.bay.Sound) {r : Ring} {ld : StateLoad}
    (hload : s.loads.get r = some ld) (hjob : ld.job = .image) :
    ∃ x, s.bay.image = some (.loading, x) := by
  cases r with
  | print => exact absurd (State.bay_loads hload hjob) hs.printLoad
  | image => exact hs.imageLoad (State.bay_loads hload hjob)

theorem State.endLoad_sound (hs : s.bay.Sound) {r : Ring} {ld : StateLoad}
    (hload : s.loads.get r = some ld) (result : BusRead (BitVec 384)) :
    (s.endLoad r ld result).bay.Sound := by
  have gone : (s.setLoad r none).bay.Sound := State.setLoad_sound hs r (by simp)
  have hgone (hjob : ld.job = .image) : (s.setLoad r none).bay.loads.image ≠ some .image := by
    cases r with
    | image => simp [State.setLoad_bay]
    | print => exact absurd (State.bay_loads hload hjob) hs.printLoad
  have leaves (hjob : ld.job = .image) {t : State} (ht : t.bay = (s.setLoad r none).bay) :
      t.imageLeaves.bay.Sound := by
    obtain ⟨x, hx⟩ := hs.load_image hload hjob
    have hx' : (s.setLoad r none).bay.image = some (.loading, x) := hx
    refine State.imageLeaves_sound (ht.symm ▸ gone) ?_ ?_ (ht.symm ▸ hgone hjob) <;> simp [ht, hx']
  obtain ⟨-, h⟩ | ⟨-, st, h⟩ | ⟨-, d, -, -, h⟩ := s.endLoad_cases r ld result <;> rw [h]
  · unfold State.loadDropped
    split
    · exact gone
    · next hjob => exact leaves hjob rfl
    · exact gone
  · unfold State.loadFailed
    split
    · exact State.endLabel_sound gone _ _ _
    · next hjob => exact leaves hjob (State.endImage_bay _ _ _)
    · exact gone
  · unfold State.loadApplied
    dsimp only
    split
    · rw [State.setUpWalker_bay]
      exact gone
    · next hjob =>
      obtain ⟨x, hx⟩ := hs.load_image hload hjob
      obtain ⟨j, hj, hphase, -⟩ := map_eq_some_iff_of_stage.1 hx
      have hx' : (s.setLoad r none).bay.image = some (.loading, x) := hx
      rw [State.setUpWalker_bay]
      have : (((s.setLoad r none).setRenderState r (applyStateRecord d
          ((s.setLoad r none).renderStates.get r))).updateImage fun j =>
            { j with phase := .requesting }).bay =
          { (s.setLoad r none).bay with image := some (.requesting, j.buffer) } := by
        simp only [State.bay, State.updateImage, State.setImage_image, State.setRenderState_image,
          State.setLoad_image, Option.mem_def.1 hj]
        rfl
      rw [this]
      exact gone.setImage (by simp [hx']) (by simp [hx']) (by simp) fun h => absurd h (hgone hjob)
    · exact gone

/-! ### The invariant -/

/-- A session just cleared: every buffer FREE and nothing in flight. -/
theorem BandsSound.of_initial {s : State} (hbands : ∀ i, (s.bands.get i).state = .free ∧
      (s.bands.get i).owner = none) (hqueue : s.printQueue = []) (hrender : s.render = none)
    (himage : s.image = none) (hloads : s.loads = ⟨none, none⟩) : BandsSound s := by
  rw [bandsSound_iff]
  have huse : s.bay.use = fun _ => (.free, none) := by
    funext i
    obtain ⟨hstate, howner⟩ := hbands i
    exact Prod.ext hstate howner
  have hbay : s.bay = ⟨fun _ => (.free, none), [], none, none, ⟨none, none⟩⟩ := by
    rw [← huse]
    simp [State.bay, State.loadJobs, hqueue, hrender, himage, hloads]
  rw [hbay]
  constructor <;> simp [useFits]

theorem BandsSound.clearSession (s : State) : BandsSound s.clearSession :=
  .of_initial (fun i => by fin_cases i <;> exact ⟨rfl, rfl⟩) rfl rfl rfl rfl

theorem JobEffect.bay {s u : State} (hs : s.bay.Sound) (h : JobEffect s u) : u.bay.Sound := by
  cases h with
  | rowStep p l => exact State.rowStep_sound hs p l
  | mark l => exact hs
  | burnMainEnd p d => exact State.endBurnMain_sound hs p d
  | burnBoostEnd p d => exact State.endDelivery_sound hs p d
  | grant p hp hworking hidle => exact State.arbitrate_sound hs hidle p
  | recordFetchEnd p r a result hp hrender => exact State.endRecordFetch_sound hs hrender p result
  | objectReadEnd p r a n work result hp hrender =>
    exact State.endObjectRead_sound hs hrender p work result
  | renderEnd p r hp hrender => exact State.endRender_sound hs hrender p
  | renderCut r hrender => exact State.cutRender_sound hs hrender
  | rowWriteEnd p j w i result hp hj hw hi hworking hphase =>
    exact State.endRowWrite_sound hs hj hi hphase p w result
  | leaveWaiting l => exact hs
  | labelLeaves l => exact hs

/-- Every effect keeps the band buffers in agreement with the blocks that use them. -/
theorem Effect.bay {s u : State} (hs : s.bay.Sound) (h : Effect s u) : u.bay.Sound := by
  have of_jobs {s u : State} (hs : s.bay.Sound) (h : u.jobs = s.jobs) : u.bay.Sound :=
    (State.bay_of_jobs h).symm ▸ hs
  cases h with
  | idle | refused | setupWrite v | ienWrite v => exact hs
  | job hjob => exact hjob.bay hs
  | start => exact (bandsSound_iff _).1 (.clearSession s)
  | engineReset => exact (bandsSound_iff _).1 (.clearSession s.countDiscarded)
  | abortPrint => exact of_jobs (State.abortLabels_sound hs) (by simp)
  | abortImage => exact of_jobs (State.abortImageJob_sound hs) (by simp)
  | fetchEnd r a marked result => exact State.endFetch_sound hs r marked result
  | heldLabel d => exact State.takeLabel_sound hs d _
  | loadEnd r ld result hload => exact State.endLoad_sound hs hload result
  | contestedFetch p r => exact hs
  | recordLost p w => exact of_jobs (s := s.endWrite) hs (by simp)
  | drained => exact hs
  | _ => exact of_jobs hs (by simp)

/-- Settles O60, effect by effect on the view. -/
theorem stepKeepsBands : Obligations.StepKeepsBands := by
  intro s t hs hstep
  exact step_keeps (P := BandsSound) (fun _ _ h => h) (fun _ _ h => h) (fun _ h => h)
    (fun s => .of_initial (fun i => by fin_cases i <;> exact ⟨rfl, rfl⟩) rfl rfl rfl rfl)
    (fun h heffect => (bandsSound_iff _).2 (heffect.bay ((bandsSound_iff _).1 h))) hs hstep

end Sys2Proof.Machine

/-! SUPPORT. Commands that change little: the wrapper's equation for every command, the passing of time,
both resets of the part, refusals and ignored writes, and the register window read and written (O1 to O8,
O12, O53). -/

namespace Sys2Proof.Machine

/-! ### The wrapper's equation -/

/-- Outside RESET_N a command that runs in the wrapper answers its effect, settled. -/
theorem State.act_effect {s u : State} {f : State → State} (hlive : s.resetHeld = false)
    (heffect : f s = u) : s.act f = .next u.settle := by
  rw [State.act_live _ hlive, heffect]

/-! ### Steps and time -/

/-- Settles O1, from the definition of a step. -/
theorem stepRunsFrontCommand : Obligations.StepRunsFrontCommand := by
  intro c rest s hpending
  unfold step
  rw [hpending]
  rfl

/-- On an empty queue a step is one microsecond (log 3). -/
theorem step_of_empty {s : State} (hempty : s.pending = []) (hlive : s.resetHeld = false) :
    step s = .next s.countDown.settle := by
  unfold step
  rw [hempty]
  exact State.act_live _ hlive

/-- A running timer expires with COMPLETION set (R180). -/
theorem State.expireTimer_of_running {s : State} (h : s.completion.timer ≠ none) :
    s.expireTimer = { s with
      cause := s.cause ||| 0b000001#6, completion := { s.completion with timer := none } } := by
  obtain ⟨n, hn⟩ := Option.ne_none_iff_exists'.1 h
  unfold State.expireTimer
  rw [hn]
  rfl

theorem State.expireTimer_of_stopped {s : State} (h : s.completion.timer = none) :
    s.expireTimer = s := by
  unfold State.expireTimer
  rw [h]

/-- Settles O2: the expiry by whether the timer runs, then the microseconds of an empty queue. -/
theorem coalescingTimerRuns : Obligations.CoalescingTimerRuns := by
  intro s hlive expired
  refine ⟨fun h => State.act_effect hlive (State.expireTimer_of_running h),
    fun h => State.act_effect hlive (State.expireTimer_of_stopped h),
    fun hempty => ⟨fun h => ?_, fun n h => ?_, fun h => ?_⟩⟩ <;>
    rw [step_of_empty hempty hlive, State.countDown, h]
  · rfl
  · dsimp only
    rw [State.expireTimer_of_running (by simp [h])]

/-! ### Reset -/

/-- Settles O3, block by block from the reset values. -/
theorem resetState : Obligations.ResetState := by
  refine ⟨rfl, rfl, rfl, rfl, rfl, rfl, rfl, fun r => ?_, rfl, fun r => ?_, rfl, fun i => ?_, rfl, rfl,
    rfl, rfl, rfl, rfl, rfl⟩
  · cases r <;> rfl
  · cases r <;> exact ⟨rfl, rfl⟩
  · fin_cases i <;> exact ⟨rfl, rfl, rfl, rfl, rfl⟩

theorem arbitraryRows_length (n start : Nat) : (arbitraryRows n start).length = 64 := by
  simp [arbitraryRows, rowsPerBuffer]

/-- Settles O4: RESET_N resets every block, and under it every register reads 0. -/
theorem resetNAsserted : Obligations.ResetNAsserted := by
  intro s
  refine ⟨s.deviceReset, rfl, rfl, fun i => ?_, fun offset => if_pos rfl⟩
  have rows := arbitraryRows_length s.freeCount
  fin_cases i <;> exact ⟨rfl, rfl, rfl, rfl, rfl, rows _⟩

/-- A well-formed command is answered, never refused. -/
theorem exec_answers {c : Instr} (hwell : c.wellFormed = true) (s : State) :
    ∃ t, exec c s = .next t := by
  cases c with
  | cmdUndefinedCode value =>
    simp only [Instr.wellFormed, Bool.not_eq_true'] at hwell
    exact ⟨_, (show execCmdUndefinedCode value s = _ from if_neg (by simp [hwell]))⟩
  | registerWriteIgnored offset width value =>
    exact ⟨_, (show execRegisterWriteIgnored offset width value s = _ from if_pos hwell)⟩
  | _ => exact ⟨_, rfl⟩

/-- Settles O5: a well-formed command is answered, and under RESET_N it answers the state itself. -/
theorem resetNHolds : Obligations.ResetNHolds := by
  refine ⟨fun c s hheld hwell hpin hpin' => ?_, fun s => rfl⟩
  obtain ⟨t, hexec⟩ := exec_answers hwell s
  rw [hexec, exec_held hexec hheld hpin hpin']

/-- Settles O53, invariant by invariant from the lemmas on a state just reset. -/
theorem resetIsSound : Obligations.ResetIsSound :=
  ⟨⟨rfl, rfl⟩, .of_initial rfl rfl rfl, .of_initial rfl rfl (by decide), .of_initial rfl rfl rfl,
    ⟨RenderState.initial_inRange, RenderState.initial_inRange⟩, .of_initial rfl rfl,
    .of_initial (fun i => by fin_cases i <;> exact ⟨rfl, rfl⟩) rfl rfl rfl rfl⟩

/-! ### What a write to the window is -/

/-- A full write to CMD names a command exactly when its whole value is 1 to 7 (Table 11-14). -/
theorem namesCommand_iff (v : Word) : namesCommand v = true ↔ 1 ≤ v.toNat ∧ v.toNat ≤ 7 := by
  unfold namesCommand commandOfCode
  split
  case h_8 h1 h2 h3 h4 h5 h6 h7 =>
    simp only [imp_false] at h1 h2 h3 h4 h5 h6 h7
    simp only [Option.isSome_none, Bool.false_eq_true, false_iff, not_and]
    omega
  all_goals next h => simp [h]

theorem windowWrite_cmd (v : Word) :
    windowWrite 0x00#6 .full v = (commandOfCode v).getD (.cmdUndefinedCode v) := rfl

/-- The command of a code, as whole values (Table 11-14, R207). -/
theorem commandOfCode_getD (v : Word) : (commandOfCode v).getD (.cmdUndefinedCode v) =
    if v = 1#32 then .start
    else if v = 2#32 then .stop
    else if v = 3#32 then .abortPrint
    else if v = 4#32 then .abortImage
    else if v = 5#32 then .resetPrintRing
    else if v = 6#32 then .resetImageRing
    else if v = 7#32 then .engineReset
    else .cmdUndefinedCode v := by
  simp only [← BitVec.toNat_inj]
  unfold commandOfCode
  split
  case h_8 h1 h2 h3 h4 h5 h6 h7 =>
    simp only [imp_false] at h1 h2 h3 h4 h5 h6 h7
    simp [h1, h2, h3, h4, h5, h6, h7]
  all_goals next h => simp [h]

/-- A write that reaches no register is ignored (Table 11-12). -/
theorem windowWrite_ignored {offset : BitVec 6} {width : AccessWidth} (v : Word)
    (h : width ≠ .full ∨ offset.toNat ∉ [0x00, 0x08, 0x0C, 0x10, 0x1C, 0x20, 0x24]) :
    windowWrite offset width v = .registerWriteIgnored offset width v := by
  unfold windowWrite
  split
  · rfl
  · rfl
  · rfl
  · have hoffset := h.resolve_left (by simp)
    split <;> simp_all

/-- A full write at an offset with a writable register reaches it. -/
theorem windowWrite_reaches {offset : BitVec 6} (v : Word)
    (h : offset.toNat ∈ [0x00, 0x08, 0x0C, 0x10, 0x1C, 0x20, 0x24]) :
    windowWrite offset .full v ≠ .registerWriteIgnored offset .full v := by
  unfold windowWrite
  dsimp only
  split
  · unfold commandOfCode
    split <;> simp
  all_goals simp_all

/-- Every write to the window is a well-formed command. -/
theorem windowWrite_wellFormed (offset : BitVec 6) (width : AccessWidth) (v : Word) :
    (windowWrite offset width v).wellFormed = true := by
  by_cases h : width ≠ .full ∨ offset.toNat ∉ [0x00, 0x08, 0x0C, 0x10, 0x1C, 0x20, 0x24]
  · have hignored := windowWrite_ignored v h
    rw [hignored]
    exact decide_eq_true hignored
  · push Not at h
    obtain ⟨rfl, hoffset⟩ := h
    unfold windowWrite
    dsimp only
    split
    · cases hcode : commandOfCode v with
      | none => simp [Instr.wellFormed, namesCommand, hcode]
      | some c =>
        unfold commandOfCode at hcode
        split at hcode <;> cases hcode <;> rfl
    all_goals simp_all [Instr.wellFormed]

/-- Settles O6: a write to CMD by its code, the other registers by their offsets, and the two rows whose
terms can spell another row's command. -/
theorem illFormedTermsStop : Obligations.IllFormedTermsStop := by
  refine ⟨fun v => ?_, fun v => ⟨rfl, rfl, rfl, rfl, rfl, rfl⟩, windowWrite_wellFormed,
    fun v s hlow hhigh => ?_, fun offset v s hoffset => ?_⟩
  · rw [windowWrite_cmd]
    exact commandOfCode_getD v
  · exact if_pos ((namesCommand_iff v).2 ⟨hlow, hhigh⟩)
  · exact if_neg (by simp [Instr.wellFormed, windowWrite_reaches v hoffset])

/-! ### Refusals and ignored writes -/

/-- Settles O7, refusal by refusal: each command's effect falls to its refusing branch. -/
theorem refusedCommands : Obligations.RefusedCommands := by
  rintro c s hlive (⟨rfl, h⟩ | ⟨rfl, h, h'⟩ | ⟨rfl | rfl, h, h'⟩ | ⟨rfl, h⟩ | ⟨rfl, h⟩ |
    ⟨r, v, rfl, h⟩ | ⟨v, rfl, h⟩)
  · exact State.act_effect (f := fun s => if s.engine.state = .stopped then _ else _) hlive (if_neg h)
  · show execStop s = _
    rw [execStop]
    refine State.act_effect hlive ?_
    cases hstate : s.engine.state <;> simp_all [State.setCause_eq, Cause.mask]
  · exact State.act_effect (f := fun s => if s.working then _ else _) hlive
      (if_neg (by simp [State.working, h, h']))
  · exact State.act_effect (f := fun s => if s.working then _ else _) hlive
      (if_neg (by simp [State.working, h, h']))
  · exact State.act_effect (f := fun s => s.tryResetRing .print) hlive (if_neg (by simp; tauto))
  · exact State.act_effect (f := fun s => s.tryResetRing .image) hlive (if_neg (by simp; tauto))
  · show execProducerWrite r v s = _
    rw [execProducerWrite]
    refine State.act_effect hlive ?_
    obtain h | h := h <;> simp [h, State.setCause_eq, Cause.mask]
  · have hnames : ¬namesCommand v = true := by
      rw [namesCommand_iff]
      omega
    show execCmdUndefinedCode v s = _
    rw [execCmdUndefinedCode, if_neg hnames]
    exact State.act_effect hlive rfl

/-- A state whose pins stand at their levels is settled. -/
theorem State.settle_of_pins {s : State} (h : s.pins = s.pinLevels) : s.settle = s := by
  unfold State.settle State.setPins
  rw [← h]

/-- Settles O8: the write is its own row's command, and its effect is none on pins at their levels. -/
theorem ignoredWrites : Obligations.IgnoredWrites := by
  rintro offset width v s ⟨hpins, -⟩ hwrite
  have hignored := windowWrite_ignored v hwrite
  refine ⟨hignored, ?_⟩
  have hact : exec (.registerWriteIgnored offset width v) s = s.act fun s => s :=
    if_pos (decide_eq_true hignored)
  cases hheld : s.resetHeld with
  | true => rw [hact, State.act_held _ hheld]
  | false =>
    rw [hheld] at hpins
    rw [hact, State.act_live _ hheld, State.settle_of_pins hpins]

/-! ### The window read -/

/-- A byte read takes the byte at its place in the register (R206). -/
theorem State.readByte_eq (s : State) {offset k : Nat} (hoffset : offset % 4 = 0) (hk : k < 4) :
    s.readByte (offset + k) = (s.readRegister offset).extractLsb' (8 * k) 8 := by
  have hregister : (offset + k) / 4 * 4 = offset := by omega
  have hplace : (offset + k) % 4 = k := by omega
  rw [State.readByte, hregister, hplace]

theorem State.readRegister_stat {s : State} (hlive : s.resetHeld = false) :
    s.readRegister 0x04 = s.statValue := by
  simp [State.readRegister, hlive]

/-- STAT's fields in their places, the bits between them 0 (Table 11-13). -/
theorem State.statValue_fields (s : State) :
    s.statValue.extractLsb' 0 3 = s.engine.state.code ∧
    s.statValue.extractLsb' 4 4 = BitVec.ofNat 4 s.engine.faultCode ∧
    s.statValue.extractLsb' 8 3 = s.rings.print.state.code ∧
    s.statValue.extractLsb' 12 3 = s.rings.image.state.code ∧
    s.statValue.extractLsb' 16 2 = s.engine.haltReason.code ∧
    s.statValue &&& 0xFFFC8808#32 = 0#32 := by
  unfold State.statValue
  generalize s.engine.state.code = a, BitVec.ofNat 4 s.engine.faultCode = b,
    s.rings.print.state.code = c, s.rings.image.state.code = d, s.engine.haltReason.code = e
  refine ⟨?_, ?_, ?_, ?_, ?_, ?_⟩ <;> ext i hi <;>
    simp only [BitVec.getElem_extractLsb', BitVec.getElem_and, BitVec.getLsbD_setWidth,
      BitVec.getElem_setWidth, BitVec.getLsbD_append, BitVec.getElem_zero] <;>
    interval_cases i <;> simp

/-- The two fields of a pair of indices (Table 11-13). -/
theorem indexPair_fields (high low : Half) :
    (high ++ low).extractLsb' 0 16 = low ∧ (high ++ low).extractLsb' 16 16 = high := by
  refine ⟨?_, ?_⟩ <;> ext i hi <;>
    simp only [BitVec.getElem_extractLsb', BitVec.getLsbD_append] <;> interval_cases i <;> simp

/-- The fields of the posting index and the reservation count, the bits above them 0 (Table 11-13). -/
theorem slotPair_fields (count : BitVec 9) (index : Half) :
    ((count ++ index).setWidth 32).extractLsb' 0 16 = index ∧
    ((count ++ index).setWidth 32).extractLsb' 16 9 = count ∧
    (count ++ index).setWidth 32 &&& 0xFE000000#32 = 0#32 := by
  refine ⟨?_, ?_, ?_⟩ <;> ext i hi <;>
    simp only [BitVec.getElem_extractLsb', BitVec.getElem_and, BitVec.getLsbD_setWidth,
      BitVec.getElem_setWidth, BitVec.getLsbD_append, BitVec.getElem_zero] <;>
    interval_cases i <;> simp

/-- Settles O12, register by register; STAT and the completion index by their fields. -/
theorem registerReads : Obligations.RegisterReads := by
  intro s hlive ringCode
  have hcode (x : RingState) : x.code = ringCode x := by cases x <;> rfl
  obtain ⟨hstate, hfault, hprint, himage, hreason, hrest⟩ := s.statValue_fields
  rw [State.readRegister_stat hlive, ← hcode, ← hcode]
  refine ⟨?_, hstate.trans (by cases s.engine.state <;> rfl), hfault, hprint, himage,
    hreason.trans (by cases s.engine.haltReason <;> rfl), hrest, State.readRegister_setup hlive, ?_, ?_, ?_,
    ?_, ?_, ?_, ?_, ?_, ?_, State.readRegister_ien hlive, ?_, fun offset k => s.readByte_eq⟩ <;>
    simp [State.readRegister, hlive, indexPair_fields, slotPair_fields]

end Sys2Proof.Machine

/-! SUPPORT. Engine control (chapter 10): START and its setup fetch, STOP and the drain, ENGINE_RESET with
the transactions it counts, the setup outcome, and from those the statements on them (O13 to O15, O17,
O18). -/

namespace Sys2Proof.Machine

/-! ### START -/

/-- Settles O13: the session opened, and the setup fetch begun once nothing discarded is outstanding. -/
theorem startOpensSession : Obligations.StartOpensSession := by
  refine ⟨fun s hlive hstopped => exec_start_of_stopped hlive hstopped,
    fun s hlive hstarting hwaiting => ?_⟩
  have heffect : s.beginSetupFetch = if s.engine.discarded = 0 then
      { s with engine := { s.engine with setupFetch := .inFlight } } else s := by
    simp only [State.beginSetupFetch, hstarting, hwaiting, true_and]
    rfl
  show s.act State.beginSetupFetch = _
  rw [State.act_effect hlive heffect]
  split <;> rfl

/-! ### The drain -/

/-- The drain conditions as one (R193). -/
theorem State.drained_iff (s : State) : s.drained = true ↔
    s.labels = [] ∧ s.image = none ∧ s.completion.retire.print = [] ∧
      s.completion.retire.image = [] ∧ s.rings.print.take = .none ∧
      s.rings.image.take = .none ∧ s.head.delivery = none := by
  simp [State.drained, and_assoc]

/-- Settles O18, by whether the drain conditions hold. -/
theorem drainEnds : Obligations.DrainEnds := by
  intro s hlive hdraining drained
  refine ⟨fun h => State.act_effect hlive (if_pos ⟨hdraining, s.drained_iff.2 h⟩),
    fun h => State.act_effect hlive (if_neg ?_)⟩
  rintro ⟨-, h'⟩
  exact h (s.drained_iff.1 h')

/-! ### STOP -/

/-- Discarding a take: the ring's take as dropped, and a held LABEL's reservation released (R148,
R151). -/
theorem State.discardTake_eq (s : State) (r : Ring) :
    s.discardTake r = { s with
      rings := s.rings.set r { s.rings.get r with take := (s.rings.get r).take.dropped }
      completion := { s.completion with
        reserved := s.completion.reserved - (s.rings.get r).take.released } } := by
  obtain ⟨htake, h⟩ | ⟨a, m, htake, h⟩ | ⟨d, htake, h⟩ := s.discardTake_cases r <;> rw [h, htake]
  · have : ({ s.rings.get r with take := TakeInFlight.none.dropped } : RingRecord) = s.rings.get r := by
      rw [TakeInFlight.dropped, ← htake]
    rw [this, PerRing.set_get]
    rfl
  · rfl
  · rfl

/-- The takes of both rings discarded. -/
theorem State.discardTakes_eq (s : State) :
    (s.discardTake .print).discardTake .image = { s with
      rings :=
        ⟨{ s.rings.print with take := s.rings.print.take.dropped },
          { s.rings.image with take := s.rings.image.take.dropped }⟩
      completion := { s.completion with
        reserved := s.completion.reserved - s.rings.print.take.released -
          s.rings.image.take.released } } := by
  rw [State.discardTake_eq (s.discardTake .print), State.discardTake_eq s]
  rfl

/-- Settles O14: STOP recorded in STARTING; in RUNNING the takes discarded, then the drain conditions. -/
theorem stopCommand : Obligations.StopCommand := by
  constructor
  · intro s hlive hstarting
    show execStop s = _
    rw [execStop]
    refine State.act_effect hlive ?_
    simp only [hstarting]
    rfl
  · intro s hlive hrunning idle
    have hexec : exec .stop s = .next s.beginDrain.settle := by
      show execStop s = _
      rw [execStop]
      refine State.act_effect hlive ?_
      simp only [hrunning]
    have hidle := ((s.setEngine { s.engine with state := .draining }).discardTake .print).discardTake
      .image |>.drained_iff
    refine ⟨_, hexec, ?_⟩
    rw [State.discardTakes_eq] at hidle
    unfold State.beginDrain
    dsimp only
    rw [State.discardTakes_eq]
    by_cases h : idle
    · rw [if_pos (hidle.2 h)]
      exact ⟨rfl, fun _ => ⟨rfl, rfl⟩, fun h' => absurd h h'⟩
    · rw [if_neg fun hd => h (hidle.1 hd)]
      exact ⟨rfl, fun h' => absurd h' h, fun _ => ⟨rfl, rfl⟩⟩

/-! ### ENGINE_RESET -/

/-- Counting the discarded transactions changes their count and the counter of the free values. -/
theorem State.countDiscarded_eq (s : State) :
    s.countDiscarded = { s with
      engine := { s.engine with discarded := s.countDiscarded.engine.discarded }
      freeCount := s.countDiscarded.freeCount } := by
  unfold State.countDiscarded
  split <;> rfl

theorem State.countDiscarded_discarded {s : State} (h : s.engine.state ≠ .halted) :
    s.countDiscarded.engine.discarded = s.engine.discarded + s.openRecordFetch + s.openOperations +
      extraOutstanding s.freeCount s.openOperations := by
  rw [State.countDiscarded, if_neg h]
  rfl

theorem State.countDiscarded_of_halted {s : State} (h : s.engine.state = .halted) :
    s.countDiscarded = s := if_pos h

/-- The read of object data outstanding. -/
def State.openObjectRead (s : State) : Nat :=
  match s.render.map RenderRecord.read with
  | some (.object _ _ _) => 1
  | some (.record _) | some .none | none => 0

/-- The operations that may be several transactions, one by one (R198). -/
theorem State.openOperations_eq (s : State) : s.openOperations =
    (if s.engine.setupFetch = .inFlight then 1 else 0) +
      (match s.rings.print.take with | .fetch _ _ => 1 | .none | .held _ => 0) +
      (match s.rings.image.take with | .fetch _ _ => 1 | .none | .held _ => 0) +
      (if s.loads.print.isSome then 1 else 0) + (if s.loads.image.isSome then 1 else 0) +
      s.openObjectRead + (if (s.image.bind ImageJob.write).isSome then 1 else 0) +
      (if s.completion.write.isSome then 1 else 0) := rfl

/-- The reads of a band render are one operation, a record fetch or a read of object data. -/
theorem State.openReads_eq (s : State) : s.openRecordFetch + s.openObjectRead =
    match s.render with
    | none => 0
    | some r => match r.read with | .none => 0 | .record _ | .object _ _ _ => 1 := by
  unfold State.openRecordFetch State.openObjectRead
  cases s.render with
  | none => rfl
  | some r => cases h : r.read <;> simp [h]

theorem State.openWrite_eq (s : State) : (if (s.image.bind ImageJob.write).isSome then 1 else 0) =
    match s.image with
    | none => 0
    | some j => match j.write with | some _ => 1 | none => 0 := by
  cases s.image with
  | none => rfl
  | some j => cases h : j.write <;> simp [h]

/-- ENGINE_RESET, block by block (R197, R198). -/
theorem State.engineReset_eq (s : State) : s.engineReset = { State.reset with
    resetHeld := s.resetHeld
    setup := s.setup
    ien := s.ien
    engine := { State.reset.engine with
      setupAddress := s.engine.setupAddress
      discarded := s.countDiscarded.engine.discarded }
    bands := ⟨.freed s.bands.b0.rows, .freed s.bands.b1.rows, .freed s.bands.b2.rows,
      .freed s.bands.b3.rows⟩
    pins := s.pins
    freeCount := s.countDiscarded.freeCount
    pending := s.pending } := by
  rw [State.engineReset, State.countDiscarded_eq s]
  rfl

/-- Settles O15: the end of a discarded transaction, then every block by its reset value and the
operations in flight one by one. -/
theorem engineResetCommand : Obligations.EngineResetCommand := by
  constructor
  · intro s hlive
    show execDiscardedTransactionEnd s = _
    exact State.act_live _ hlive
  intro s hlive fetching loading reading writing posting inFlight
  have hinFlight : s.openRecordFetch + s.openOperations = inFlight := by
    have hloading (x : Option StateLoad) : (if x.isSome then 1 else 0) = loading x := by
      cases x <;> rfl
    have hposting : (if s.completion.write.isSome then 1 else 0) = posting := by
      show _ = (match s.completion.write with | some _ => 1 | none => 0)
      cases s.completion.write <;> rfl
    have hreading : s.openRecordFetch + s.openObjectRead = reading := s.openReads_eq
    have hwriting : (if (s.image.bind ImageJob.write).isSome then 1 else 0) = writing := s.openWrite_eq
    have hoperations : s.openOperations = _ + fetching s.rings.print + fetching s.rings.image +
        _ + _ + _ + _ + _ := s.openOperations_eq
    rw [hloading, hloading, hposting, hwriting] at hoperations
    have hsum : inFlight = _ + fetching s.rings.print + fetching s.rings.image +
      loading s.loads.print + loading s.loads.image + reading + writing + posting := rfl
    omega
  refine ⟨_, exec_engineReset hlive, ?_, fun h => ?_, fun h => ?_, fun h => ?_⟩
  · rw [State.engineReset_eq, hlive]
    rfl
  · show s.countDiscarded.engine.discarded = _
    rw [State.countDiscarded_of_halted h]
  · show _ ≤ s.countDiscarded.engine.discarded
    rw [State.countDiscarded_discarded h, ← hinFlight]
    omega
  · show s.countDiscarded.engine.discarded = _
    by_cases hhalted : s.engine.state = .halted
    · rw [State.countDiscarded_of_halted hhalted]
    · have hnone : s.openOperations = 0 := by omega
      rw [State.countDiscarded_discarded hhalted, hnone, extraOutstanding]
      omega

/-! ### The setup outcome -/

/-- The overrun check of a ring that is not FAULTED (R142, R148). -/
theorem State.checkOverrun_eq {s : State} {p : SetupParams} {r : Ring}
    (h : (s.rings.get r).state.faulted = false) :
    s.checkOverrun p r =
      if p.ringSize.get r < (s.rings.get r).posted then
        { s with
          rings := s.rings.set r (s.rings.get r).overrun
          cause := s.cause ||| 0b000010#6
          completion := { s.completion with
            reserved := s.completion.reserved - (s.rings.get r).take.released } }
      else s := by
  rw [State.checkOverrun, h, if_neg Bool.false_ne_true]
  split
  · rw [State.discardTake_eq, State.faultRing_eq]
    simp only [PerRing.get_set_self, PerRing.set_set]
    rfl
  · rfl

/-- The overrun check of both rings, neither of them FAULTED (R190). -/
theorem State.checkOverruns_eq {s : State} {p : SetupParams}
    (hprint : s.rings.print.state.faulted = false) (himage : s.rings.image.state.faulted = false) :
    (s.checkOverrun p .print).checkOverrun p .image =
      { s with
        rings :=
          ⟨if p.ringSize.print < s.rings.print.posted then s.rings.print.overrun else s.rings.print,
            if p.ringSize.image < s.rings.image.posted then s.rings.image.overrun else s.rings.image⟩
        cause := s.cause |||
          (if p.ringSize.print < s.rings.print.posted ∨ p.ringSize.image < s.rings.image.posted then
            0b000010#6 else 0#6)
        completion := { s.completion with
          reserved := s.completion.reserved -
            (if p.ringSize.print < s.rings.print.posted then s.rings.print.take.released else 0) -
            (if p.ringSize.image < s.rings.image.posted then s.rings.image.take.released else 0) } } := by
  have hother : (s.checkOverrun p .print).rings.image = s.rings.image :=
    s.checkOverrun_other p .print
  rw [State.checkOverrun_eq (s := s.checkOverrun p .print) (r := .image) (by
    rw [PerRing.get_image, hother]; exact himage), State.checkOverrun_eq (r := .print) hprint]
  by_cases h : p.ringSize.print < s.rings.print.posted <;>
    by_cases h' : p.ringSize.image < s.rings.image.posted <;>
    simp [h, h', PerRing.set, BitVec.or_assoc]

/-- Settles O17: STOPPED with a fault code or a pending STOP, else RUNNING with both rings checked. -/
theorem setupOutcome : Obligations.SetupOutcome := by
  intro result s hlive hstarting hfetch
  have hexec := exec_setupFetchEnd result hlive hstarting hfetch
  rw [hexec]
  constructor
  · intro h
    unfold State.setupOutcome
    cases result with
    | busError => rfl
    | data d =>
      dsimp only
      rw [if_neg]
      · rfl
      · rintro ⟨hstop, hcode⟩
        obtain h | h := h
        · exact h hcode
        · simp [hstop] at h
  · intro d hdata hcode hstop hprint himage u8 u16 u32 p exceeds
    subst hdata
    unfold State.setupOutcome
    dsimp only
    rw [if_pos ⟨hstop, hcode⟩]
    rw [State.checkOverruns_eq (by exact congrArg RingState.faulted hprint)
      (by exact congrArg RingState.faulted himage)]
    rfl

end Sys2Proof.Machine

/-! SUPPORT. Writes to the producer indices and to CAUSE, and the ring commands up to the take (chapters 8
and 9): the statements on them (O19, O21, O22, O24, O32). -/

namespace Sys2Proof.Machine

/-! ### Producer writes -/

theorem State.checkOverrun_of_faulted {s : State} {p : SetupParams} {r : Ring}
    (h : (s.rings.get r).state.faulted = true) : s.checkOverrun p r = s := if_pos h

/-- Nothing to trim on a ring that is not FLUSHING. -/
theorem State.trimFlush_of_not_flushing {s : State} {r : Ring}
    (h : ∀ b, (s.rings.get r).state ≠ .flushing b) : s.trimFlush r = s := by
  unfold State.trimFlush
  cases hstate : (s.rings.get r).state <;> simp_all

/-- The boundary of a FLUSHING ring after a producer write (R162). -/
theorem State.trimFlush_of_flushing {s : State} {r : Ring} {b : Half}
    (h : (s.rings.get r).state = .flushing b) :
    s.trimFlush r = s.setRingState r
      (if (s.rings.get r).producer = (s.rings.get r).consumer then .active
        else if ((s.rings.get r).producer - (s.rings.get r).consumer).toNat ≤
          (b - (s.rings.get r).consumer).toNat then .flushing (s.rings.get r).producer
        else .flushing b) := by
  have hkept : s.setRingState r (.flushing b) = s := by
    unfold State.setRingState State.setRing
    rw [← h]
    exact congrArg (fun x => { s with rings := x }) (s.rings.set_get r)
  unfold State.trimFlush
  dsimp only
  rw [h]
  dsimp only
  split
  · rfl
  · simp only [indexBetween, decide_eq_true_eq]
    split
    · rfl
    · exact hkept.symm

theorem State.producerChecked_eq {s : State} {p : SetupParams} (h : s.engine.params = some p) (r : Ring)
    (v : Half) : s.producerChecked r v = ((s.storeProducer r v).checkOverrun p r).trimFlush r := by
  rw [State.producerChecked, h]

/-- Settles O19: stored, checked and trimmed, by the ring's state and its posted count. -/
theorem producerWrites : Obligations.ProducerWrites := by
  intro r v s hlive x stored with_
  have hring : (s.storeProducer r (lowHalf v)).rings.get r = stored := by
    rw [lowHalf_eq]
    exact PerRing.get_set_self _ _ _
  have hstored : s.storeProducer r (lowHalf v) = with_ stored := by
    rw [lowHalf_eq]
    rfl
  refine ⟨fun hstarting => ?_, fun p hworking hparams => ?_⟩
  · show execProducerWrite r v s = _
    rw [execProducerWrite]
    refine State.act_effect hlive ?_
    simp only [hstarting, hstored]
  · have hexec {u : State}
        (hu : ((s.storeProducer r (lowHalf v)).checkOverrun p r).trimFlush r = u) :
        exec (.producerWrite r v) s = .next u.settle := by
      show execProducerWrite r v s = _
      rw [execProducerWrite]
      refine State.act_effect hlive ?_
      rw [← hu, ← State.producerChecked_eq hparams]
      obtain h | h := hworking <;> simp only [h]
    have hpassed (hfaulted : x.state.faulted = false) (hsize : stored.posted ≤ p.ringSize.get r) :
        (s.storeProducer r (lowHalf v)).checkOverrun p r = s.storeProducer r (lowHalf v) := by
      rw [State.checkOverrun_eq (by rw [hring]; exact hfaulted), hring, if_neg (by omega)]
    refine ⟨fun hfaulted => hexec ?_, fun hactive hsize => hexec ?_, fun hfaulted hsize => hexec ?_,
      fun b hflushing hsize => hexec ?_⟩
    · rw [State.checkOverrun_of_faulted, State.trimFlush_of_not_flushing, hstored]
      · intro b
        rw [hring]
        show x.state ≠ _
        obtain h | h := hfaulted <;> simp [h]
      · rw [hring]
        show x.state.faulted = true
        obtain h | h := hfaulted <;> simp [h, RingState.faulted]
    · rw [hpassed (by simp [hactive, RingState.faulted]) hsize, State.trimFlush_of_not_flushing, hstored]
      intro b
      rw [hring]
      show x.state ≠ _
      simp [hactive]
    · rw [State.checkOverrun_eq (by rw [hring]; exact hfaulted), hring, if_pos hsize, hstored,
        State.trimFlush_of_not_flushing]
      · simp [with_]
        rfl
      · intro b
        simp [RingRecord.overrun]
    · rw [hpassed (by simp [hflushing, RingState.faulted]) hsize, State.trimFlush_of_flushing (b := b)
        (by rw [hring]; exact hflushing), hring, hstored]
      simp only [with_, State.setRingState, State.setRing, PerRing.get_set_self, PerRing.set_set]
      rfl

/-! ### CAUSE -/

/-- Settles O21: the bits cleared, then the count examined when COMPLETION is one of them. -/
theorem causeWrites : Obligations.CauseWrites := by
  intro v s hlive cleared
  have hexec {u : State} (hu : s.writeCause (lowSix v) = u) :
      exec (.causeWrite v) s = .next u.settle := by
    show execCauseWrite v s = _
    rw [execCauseWrite]
    exact State.act_effect hlive hu
  have hcleared : s.clearCauses (lowSix v) = cleared := by rw [lowSix_eq]; rfl
  have hbit : (lowSix v).getLsbD 0 = v.getLsbD 0 := by simp [lowSix]
  refine ⟨fun h => hexec ?_, fun p hbit' hparams => ?_⟩
  · unfold State.writeCause
    rw [hcleared, hbit]
    obtain h | h := h
    · exact if_neg (by rw [h]; decide)
    · rw [show cleared.engine.params = none from h]
      exact ite_self _
  · have hcount : s.writeCause (lowSix v) = cleared.coalesceClear p := by
      unfold State.writeCause
      rw [hcleared, hbit, if_pos hbit', hparams]
    refine ⟨fun h => hexec (hcount.trans (if_pos h)), fun h h' htime htimer => hexec ?_,
      fun h h' => hexec ?_⟩
    · exact hcount.trans ((if_neg (Nat.not_le.2 h')).trans (if_pos ⟨h, htime, htimer⟩))
    · refine hcount.trans ((if_neg (Nat.not_le.2 h)).trans (if_neg ?_))
      rintro ⟨hone, htime, htimer⟩
      obtain h' | h' | h' := h'
      · exact absurd (show 1 ≤ s.unconsumed from hone) (by omega)
      · omega
      · exact h' htimer

/-! ### The beginning of a descriptor fetch -/

theorem State.sideIdle_print (s : State) : s.sideIdle .print = true ↔
    (∀ l ∈ s.labels, l.renderStatus ≠ .loading ∧ l.renderStatus ≠ .rendering) ∧ s.loads.print = none := by
  simp [State.sideIdle, LabelEntry.busy]

theorem State.sideIdle_image (s : State) : s.sideIdle .image = true ↔
    s.image = none ∧ s.loads.image = none := by
  simp [State.sideIdle]

/-- A ring's slot request, written out (R145, R146). -/
theorem State.slotRequest_iff (s : State) (q : Ring) : s.slotRequest q = true ↔
    s.engine.state = .running ∧ (s.rings.get q).take = .none ∧
      (s.completion.retire.get q).length < 8 ∧
      ((s.rings.get q).state = .active ∧ (s.rings.get q).producer ≠ (s.rings.get q).consumer ∧
          s.sideIdle q = true ∨
        ∃ b, (s.rings.get q).state = .flushing b ∧ (s.rings.get q).consumer ≠ b) := by
  cases h : (s.rings.get q).state <;>
    simp [State.slotRequest, h, RingRecord.posted_pos, and_assoc]

/-- The last free slot is contested when both rings request it (Table 9-3). -/
theorem State.slotContested_iff (s : State) (p : SetupParams) (r : Ring) :
    s.slotContested p = true ↔
      s.freeSlots p = 1 ∧ s.slotRequest r = true ∧ s.slotRequest r.other = true := by
  cases r <;> simp [State.slotContested, Ring.other, and_assoc, and_comm (a := s.slotRequest .print = true)]

/-- A ring has a slot when it requests one, one is free, and the turn is its own or nothing is contested
(Table 9-3). -/
theorem State.slotGranted_iff (s : State) (p : SetupParams) (r : Ring) :
    s.slotGranted p r = true ↔ s.slotRequest r = true ∧ 1 ≤ s.freeSlots p ∧
      (s.slotContested p = false ∨ s.completion.reservationTurn = r) := by
  simp [State.slotGranted, and_assoc]

/-- A fetch begins on a granted slot, the turn passed on when it was contested (R147, R169). -/
def State.startFetch (s : State) (p : SetupParams) (r : Ring) : State :=
  if s.slotGranted p r then
    if s.slotContested p then s.passReservationTurn.beginFetch p r else s.beginFetch p r
  else s

theorem exec_descriptorFetchStart {s : State} {p : SetupParams} (hlive : s.resetHeld = false)
    (hparams : s.engine.params = some p) (r : Ring) :
    exec (.descriptorFetchStart r) s = .next (s.startFetch p r).settle := by
  show execDescriptorFetchStart r s = _
  rw [execDescriptorFetchStart]
  refine State.act_effect hlive ?_
  simp only [hparams]
  rfl

theorem State.startFetch_of_not_granted {s : State} {p : SetupParams} {r : Ring}
    (h : ¬s.slotGranted p r = true) : s.startFetch p r = s := if_neg h

/-- Settles O22: granted or not, by the request, the free slots and, when contested, the turn. -/
theorem descriptorFetchBegins : Obligations.DescriptorFetchBegins := by
  intro r p s hlive hparams idle wants free fetching begun
  have hidle (q : Ring) : s.sideIdle q = true ↔ idle q := by
    cases q
    · exact s.sideIdle_print
    · exact s.sideIdle_image
  have hwants (q : Ring) : s.slotRequest q = true ↔ wants q := by
    rw [State.slotRequest_iff, hidle]
  have hgranted := s.slotGranted_iff p r
  have hcontested := s.slotContested_iff p r
  rw [hwants, hwants] at hcontested
  rw [hwants] at hgranted
  rw [exec_descriptorFetchStart hlive hparams]
  refine ⟨fun h => ?_, fun h => ?_, fun h hfree h' => ?_, fun h hfree h' => ?_⟩
  · rw [State.startFetch_of_not_granted fun hg => h (hgranted.1 hg).1]
  · rw [State.startFetch_of_not_granted]
    intro hg
    obtain ⟨-, hfree, -⟩ := hgranted.1 hg
    exact absurd hfree (by rw [show s.freeSlots p = 0 from h]; omega)
  · have hfree' : ¬s.slotContested p = true := by
      rw [hcontested]
      rintro ⟨hone, -, hother⟩
      have hone' : free = 1 := hone
      obtain h' | h' := h'
      · omega
      · exact h' hother
    rw [State.startFetch, if_pos (hgranted.2 ⟨h, hfree, .inl (by simpa using hfree')⟩), if_neg hfree']
    rfl
  · have hboth := hcontested.2 ⟨hfree, h, h'⟩
    by_cases hturn : s.completion.reservationTurn = r
    · rw [State.startFetch, if_pos (hgranted.2 ⟨h, hfree.ge, .inr hturn⟩), if_pos hboth, if_pos hturn,
        State.passReservationTurn, hturn]
      rfl
    · rw [if_neg hturn, State.startFetch_of_not_granted]
      intro hg
      obtain ⟨-, -, hnot | hturn'⟩ := hgranted.1 hg
      · simp [hboth] at hnot
      · exact hturn hturn'

/-! ### Discarded fetches -/

/-- Settles O24: in HALTED nothing, else the fetch dropped, whether discarded or stale. -/
theorem descriptorFetchDiscarded : Obligations.DescriptorFetchDiscarded := by
  intro r result a marked s hlive htake
  refine ⟨fun hhalted => ?_, fun hhalted h => ?_, fun d hdata hrunning h => ?_⟩
  · show execDescriptorFetchEnd r result s = _
    rw [execDescriptorFetchEnd]
    refine State.act_effect hlive ?_
    simp only [htake, hhalted, if_true]
  · have hdiscarded : s.fetchDiscarded r marked = true := by
      simp [State.fetchDiscarded, h, or_assoc]
    rw [exec_descriptorFetchEnd_of_fetch result hlive hhalted htake, ← State.dropFetch_eq]
    unfold State.endFetch
    rw [if_pos hdiscarded]
  · have hstale : s.fetchStale r = true := by
      have hposted : (s.rings.get r).posted = 0 ↔ (s.rings.get r).producer = (s.rings.get r).consumer := by
        rw [← not_iff_not, ← ne_eq, ← Nat.pos_iff_ne_zero, RingRecord.posted_pos]
      simpa [State.fetchStale, hposted] using h
    subst hdata
    rw [exec_descriptorFetchEnd_of_fetch _ hlive (by simp [hrunning]) htake, ← State.dropFetch_eq]
    unfold State.endFetch
    dsimp only
    rw [if_pos hstale, ite_self]

/-! ### Ring reset -/

theorem State.resetRing_eq (s : State) (r : Ring) : s.resetRing r = { s with
    rings := s.rings.set r
      { producer := (s.rings.get r).producer, consumer := (s.rings.get r).producer,
        state := .active, take := (s.rings.get r).take.dropped }
    completion := { s.completion with
      reserved := s.completion.reserved - (s.rings.get r).take.released }
    renderStates := s.renderStates.set r RenderState.initial } := by
  rw [State.resetRing, State.discardTake_eq]
  simp only [PerRing.get_set_self, State.setRing, State.setRenderState, PerRing.set_set]

/-- Settles O32: the reset is accepted, and its effect is written out. -/
theorem ringResetAccepted : Obligations.RingResetAccepted := by
  intro r s hlive hrunning hretire
  have hreset : s.tryResetRing r = s.resetRing r := if_pos ⟨hrunning, hretire⟩
  rw [State.resetRing_eq] at hreset
  cases r
  · exact State.act_effect (f := fun s => s.tryResetRing .print) hlive hreset
  · exact State.act_effect (f := fun s => s.tryResetRing .image) hlive hreset

end Sys2Proof.Machine

/-! SUPPORT. The take (chapter 8): what the checks of a descriptor find in its bytes, and the state after
each outcome of the end of a fetch: the statements on takes (O25 to O28). -/

namespace Sys2Proof.Machine

/-! ### The checks of a descriptor, in its bytes (Tables 11-4 to 11-6) -/

theorem readLabelFields_valid_iff (d : BitVec 256) : (readLabelFields d).valid = true ↔
    (d.extractLsb' 64 32).toNat % 32 = 0 ∧ (d.extractLsb' 112 16).toNat ≠ 0 ∧
      (d.getLsbD 9 = true → (d.extractLsb' 128 16).toNat ≠ 0) := by
  have halign : (readLabelFields d).align = d.getLsbD 9 := by simp [readLabelFields, byteAt]
  rw [LabelFields.valid, halign]
  cases d.getLsbD 9 <;>
    simp [readLabelFields, aligned, wordAt, halfAt, Nat.one_le_iff_ne_zero, and_assoc]

theorem readImageFields_valid_iff (d : BitVec 256) : (readImageFields d).valid = true ↔
    (d.extractLsb' 64 32).toNat % 32 = 0 ∧ 1 ≤ (d.extractLsb' 112 16).toNat ∧
      (d.extractLsb' 112 16).toNat ≤ 2048 ∧ (d.extractLsb' 128 16).toNat ≠ 0 ∧
      ((d.extractLsb' 112 16).toNat + 7) / 8 ≤ (d.extractLsb' 144 16).toNat := by
  rw [ImageFields.valid, aligned]
  simp only [Bool.and_eq_true, decide_eq_true_eq, and_assoc,
    Nat.one_le_iff_ne_zero (n := (readImageFields d).height)]
  rfl

theorem checked_of_not {ok : Bool} (d : Descriptor) (h : ¬ok = true) :
    checked ok d = .badDescriptor := if_neg h

theorem checkDescriptor_label {d : BitVec 256} (h : (d.extractLsb' 0 8).toNat = 1) :
    checkDescriptor .print d = checked (readLabelFields d).valid (.label (readLabelFields d)) :=
  if_pos h

theorem checkDescriptor_image {d : BitVec 256} (h : (d.extractLsb' 0 8).toNat = 2) :
    checkDescriptor .image d = checked (readImageFields d).valid (.image (readImageFields d)) :=
  (if_neg (by show ¬(d.extractLsb' 0 8).toNat = 1; omega)).trans (if_pos h)

theorem checkDescriptor_state {d : BitVec 256} (r : Ring) (h : (d.extractLsb' 0 8).toNat = 3) :
    checkDescriptor r d =
      checked (decide (d.extractLsb' 32 32 ≠ 0#32)) (.state (d.extractLsb' 32 32)) :=
  (if_neg (by show ¬(d.extractLsb' 0 8).toNat = 1; omega)).trans
    ((if_neg (by show ¬(d.extractLsb' 0 8).toNat = 2; omega)).trans (if_pos h))

theorem checkDescriptor_marker {d : BitVec 256} (r : Ring) (h : (d.extractLsb' 0 8).toNat = 4) :
    checkDescriptor r d = .valid .marker :=
  (if_neg (by show ¬(d.extractLsb' 0 8).toNat = 1; omega)).trans
    ((if_neg (by show ¬(d.extractLsb' 0 8).toNat = 2; omega)).trans
      ((if_neg (by show ¬(d.extractLsb' 0 8).toNat = 3; omega)).trans (if_pos h)))

theorem checkDescriptor_badKind {d : BitVec 256} {r : Ring}
    (h : (d.extractLsb' 0 8).toNat = 0 ∨ 5 ≤ (d.extractLsb' 0 8).toNat ∨
      ((d.extractLsb' 0 8).toNat = 1 ∧ r = .image) ∨ ((d.extractLsb' 0 8).toNat = 2 ∧ r = .print)) :
    checkDescriptor r d = .badKind := by
  have hkind : (descriptorKind d).toNat = (d.extractLsb' 0 8).toNat := rfl
  unfold checkDescriptor
  rw [hkind]
  obtain h | h | ⟨h, rfl⟩ | ⟨h, rfl⟩ := h
  · simp [h]
  · rw [if_neg (by omega), if_neg (by omega), if_neg (by omega), if_neg (by omega)]
  · simp [h]
  · simp [h]

/-! ### The end of a fetch that answers -/

section Answers

variable {s : State} {r : Ring}

/-- The end of a fetch that answers on an ACTIVE ring: the descriptor is checked and taken (R150). -/
theorem FetchAnswers.exec_active (h : FetchAnswers s r) (hlive : s.resetHeld = false)
    (hactive : (s.rings.get r).state = .active) (d : BitVec 256) :
    exec (.descriptorFetchEnd r (.data d)) s = .next (s.takeChecked r d).settle := by
  obtain ⟨hrunning, ⟨a, htake⟩, hfaulted, hposted, hidle⟩ := h
  have hkept : s.fetchDiscarded r false = false := by
    simp [State.fetchDiscarded, hrunning, hfaulted]
  have hfresh : s.fetchStale r = false := by simp [State.fetchStale, hposted, hidle hactive]
  rw [exec_descriptorFetchEnd_of_fetch _ hlive (by simp [hrunning]) htake]
  unfold State.endFetch
  rw [hkept, if_neg Bool.false_ne_true]
  dsimp only
  rw [hfresh, if_neg Bool.false_ne_true, hactive]

/-- The end of a fetch that answers on a FLUSHING ring: FLUSHED whatever the bytes (R161). -/
theorem FetchAnswers.exec_flushing (h : FetchAnswers s r) (hlive : s.resetHeld = false) {b : Half}
    (hflushing : (s.rings.get r).state = .flushing b) (d : BitVec 256) :
    exec (.descriptorFetchEnd r (.data d)) s = .next (s.takeFlushed r d).settle := by
  obtain ⟨hrunning, ⟨a, htake⟩, hfaulted, hposted, -⟩ := h
  have hkept : s.fetchDiscarded r false = false := by
    simp [State.fetchDiscarded, hrunning, hfaulted]
  have hfresh : s.fetchStale r = false := by simp [State.fetchStale, hposted, hflushing]
  rw [exec_descriptorFetchEnd_of_fetch _ hlive (by simp [hrunning]) htake]
  unfold State.endFetch
  rw [hkept, if_neg Bool.false_ne_true]
  dsimp only
  rw [hfresh, if_neg Bool.false_ne_true, hflushing]

/-- A descriptor of an ACTIVE ring finished at the take (R152). -/
theorem State.takeFinished_of_active (hactive : (s.rings.get r).state = .active) (d : BitVec 256)
    (st : Status) :
    s.takeFinished r d st = { s with
      rings := s.rings.set r { s.rings.get r with
        consumer := (s.rings.get r).consumer + 1#16, take := .none, state := .active }
      completion := { s.completion with
        retire := s.completion.retire.set r (s.completion.retire.get r ++
          [finishedEntry (s.rings.get r).consumer (d.extractLsb' 16 16) (d.extractLsb' 0 8) st]) } } := by
  rw [← hactive]
  rfl

end Answers

/-- Settles O25: FLUSHED on a FLUSHING ring; on an ACTIVE one by what the checks find. -/
theorem finishedAtTheTake : Obligations.FinishedAtTheTake := by
  intro r d s hlive hanswers x u8 u16 u32 taken badKind badLabel badImage
  refine ⟨fun b hflushing => ?_, fun hactive => ?_⟩
  · rw [hanswers.exec_flushing hlive hflushing, State.takeFlushed_eq hflushing]
    rfl
  · have finished {st : Status} (h : s.takeChecked r d = s.takeFinished r d st) :
        exec (.descriptorFetchEnd r (.data d)) s = .next (taken st .active).settle := by
      rw [hanswers.exec_active hlive hactive, h, State.takeFinished_of_active hactive]
    refine ⟨fun h => finished ?_, fun h => finished ?_, fun h => finished ?_⟩ <;>
      unfold State.takeChecked
    · rw [checkDescriptor_badKind h]
    · have hbad : checkDescriptor r d = .badDescriptor := by
        obtain ⟨hkind, rfl, hlabel⟩ | ⟨hkind, rfl, himage⟩ | ⟨hkind, hnull⟩ := h
        · rw [checkDescriptor_label hkind]
          refine checked_of_not _ fun hvalid => ?_
          obtain ⟨hlist, hlength, hlimit⟩ := (readLabelFields_valid_iff d).1 hvalid
          obtain h | h | ⟨h, h'⟩ := hlabel
          · exact h hlist
          · exact hlength h
          · exact hlimit h h'
        · rw [checkDescriptor_image hkind]
          refine checked_of_not _ fun hvalid => ?_
          obtain ⟨hlist, hwidth, hwidth', hheight, hstride⟩ := (readImageFields_valid_iff d).1 hvalid
          obtain h | h | h | h | h := himage
          · exact h hlist
          · exact Nat.one_le_iff_ne_zero.1 hwidth h
          · exact Nat.not_lt.2 hwidth' h
          · exact hheight h
          · exact Nat.not_lt.2 hstride h
        · rw [checkDescriptor_state r hkind]
          refine checked_of_not _ fun hvalid => ?_
          exact of_decide_eq_true hvalid (BitVec.eq_of_toNat_eq hnull)
      rw [hbad]
    · rw [checkDescriptor_marker r h]

/-! ### The takes of valid descriptors -/

/-- A report just made is as a walker context set up leaves it (R21). -/
theorem JobReport.setUp_initial : JobReport.initial.setUp = JobReport.initial := rfl

/-- A LABEL taken (R95, R152): the ring, its entry, the label, and its load or its walker. -/
theorem State.takeLabel_eq {s : State} (d : BitVec 256) (f : LabelFields)
    (hnew : ∀ l ∈ s.labels, l.ringIndex ≠ s.rings.print.consumer) :
    s.takeLabel d f = { s with
      rings := ⟨{ s.rings.print with consumer := s.rings.print.consumer + 1#16, take := .none },
        s.rings.image⟩
      completion := { s.completion with
        retire := ⟨s.completion.retire.print ++
          [⟨s.rings.print.consumer, descriptorTag d, descriptorKind d, none⟩],
          s.completion.retire.image⟩ }
      labels := s.labels ++ [newLabel s.rings.print.consumer (descriptorTag d) f
        (if f.stateAddress = 0#32 then .rendering else .loading)]
      walkers :=
        if f.stateAddress = 0#32 then
          ⟨⟨some (.label s.rings.print.consumer), f.listAddress, f.objectCount, 0, none⟩,
            s.walkers.image⟩
        else s.walkers
      tables := if f.stateAddress = 0#32 then ⟨[], s.tables.image⟩ else s.tables
      loads :=
        if f.stateAddress = 0#32 then s.loads
        else ⟨some ⟨.label s.rings.print.consumer, f.stateAddress, f.listAddress, f.objectCount, false⟩,
          s.loads.image⟩ } := by
  have hkept (x : LabelEntry) (hreport : x.report = JobReport.initial) :
      (s.labels ++ [x]).map (updateEntry s.rings.print.consumer fun l =>
        { l with report := l.report.setUp }) = s.labels ++ [x] := by
    refine (List.map_congr_left fun l hl => ?_).trans (List.map_id _)
    unfold updateEntry
    obtain hl | hl := List.mem_append.1 hl
    · exact if_neg (hnew l hl)
    · have hx : ({ x with report := x.report.setUp } : LabelEntry) = x := by
        rw [hreport, JobReport.setUp_initial, ← hreport]
      rw [List.mem_singleton.1 hl]
      split
      · exact hx
      · rfl
  unfold State.takeLabel
  split
  · exact congrArg (State.setLabels (((s.takeProper .print (descriptorKind d) (descriptorTag d)
      none).setWalker .print _).setTable .print [])) (hkept _ rfl)
  · rfl

/-- An IMAGE taken (R126, R152): the ring, its entry, the image job, and its load or its walker. -/
theorem State.takeImage_eq (s : State) (d : BitVec 256) (f : ImageFields) :
    s.takeImage d f = { s with
      rings := ⟨s.rings.print,
        { s.rings.image with consumer := s.rings.image.consumer + 1#16, take := .none }⟩
      completion := { s.completion with
        retire := ⟨s.completion.retire.print, s.completion.retire.image ++
          [⟨s.rings.image.consumer, descriptorTag d, descriptorKind d, none⟩]⟩ }
      image := some (newImage s.rings.image.consumer (descriptorTag d) f
        (if f.stateAddress = 0#32 then .requesting else .loading))
      walkers :=
        if f.stateAddress = 0#32 then
          ⟨s.walkers.print, ⟨some .image, f.listAddress, f.objectCount, 0, none⟩⟩
        else s.walkers
      tables := if f.stateAddress = 0#32 then ⟨s.tables.print, []⟩ else s.tables
      loads :=
        if f.stateAddress = 0#32 then s.loads
        else ⟨s.loads.print,
          some ⟨.image, f.stateAddress, f.listAddress, f.objectCount, false⟩⟩ } := by
  unfold State.takeImage
  split <;> rfl

/-- Settles O27: the checks pass, and the IMAGE is taken. -/
theorem imageTaken : Obligations.ImageTaken := by
  intro d s hlive hanswers hactive hkind hlist hwidth hwidth' hheight hstride i none_ count list
  have hkind' : (d.extractLsb' 0 8).toNat = 2 := by rw [hkind]; rfl
  have hvalid := (readImageFields_valid_iff d).2 ⟨hlist, hwidth, hwidth', hheight, hstride⟩
  have hchecked : s.takeChecked .image d = s.takeImage d (readImageFields d) := by
    unfold State.takeChecked
    rw [checkDescriptor_image hkind', hvalid]
    rfl
  rw [hanswers.exec_active hlive hactive, hchecked, State.takeImage_eq,
    show descriptorKind d = 2#8 from hkind]
  rfl

/-- Settles O28: the check passes on either ring, and the load begins. -/
theorem stateDescriptorTaken : Obligations.StateDescriptorTaken := by
  intro r d s hlive hanswers hactive hkind haddress i
  have hkind' : (d.extractLsb' 0 8).toNat = 3 := by rw [hkind]; rfl
  have hchecked : s.takeChecked r d = s.takeStateDescriptor r d (d.extractLsb' 32 32) := by
    unfold State.takeChecked
    rw [checkDescriptor_state r hkind', decide_eq_true haddress]
    rfl
  rw [hanswers.exec_active hlive hactive, hchecked, State.takeStateDescriptor, State.takeProper_eq,
    show descriptorKind d = 3#8 from hkind]
  rfl

/-- Settles O26: the checks pass, and the LABEL is taken at the end of its fetch or from its held bytes;
with 4 labels it is held. -/
theorem labelTaken : Obligations.LabelTaken := by
  intro d s hlive hkind hlist hlength hlimit hactive hrunning hposted hnew i none_ count list new taken
  have hkind' : (d.extractLsb' 0 8).toNat = 1 := by rw [hkind]; rfl
  have hvalid := (readLabelFields_valid_iff d).2 ⟨hlist, hlength, hlimit⟩
  have hchecked : s.takeChecked .print d = if s.labels.length < 4 then
      s.takeLabel d (readLabelFields d) else s.setTake .print (.held d) := by
    unfold State.takeChecked
    rw [checkDescriptor_label hkind', hvalid]
    rfl
  have htaken : s.takeLabel d (readLabelFields d) = taken := by
    rw [State.takeLabel_eq d _ hnew, show descriptorKind d = 1#8 from hkind]
    have hpad : (readLabelFields d).pad = d.getLsbD 8 := by simp [readLabelFields, byteAt]
    have halign : (readLabelFields d).align = d.getLsbD 9 := by simp [readLabelFields, byteAt]
    rw [newLabel, hpad, halign]
    rfl
  have hfetch {a : Word} (htake : s.rings.print.take = .fetch a false)
      (hidle : s.sideIdle .print = true) : exec (.descriptorFetchEnd .print (.data d)) s =
        .next (s.takeChecked .print d).settle :=
    FetchAnswers.exec_active (r := .print) ⟨hrunning, ⟨a, htake⟩, by simp [hactive, RingState.faulted], hposted,
      fun _ => hidle⟩ hlive hactive d
  have hheld (htake : s.rings.print.take = .held d) : exec .heldLabelTake s =
      .next (if s.labels.length < 4 then s.takeLabel d (readLabelFields d) else s).settle := by
    show execHeldLabelTake s = _
    rw [execHeldLabelTake]
    refine State.act_effect hlive ?_
    simp only [htake, hrunning, hactive, Nat.pos_of_ne_zero hposted, true_and, and_true]
  refine ⟨fun a htake hidle hroom => ?_, fun a htake hidle hfull => ?_, fun htake hroom => ?_,
    fun htake hfull => ?_⟩
  · rw [hfetch htake hidle, hchecked, if_pos hroom, htaken]
  · rw [hfetch htake hidle, hchecked, if_neg (by omega)]
    rfl
  · rw [hheld htake, if_pos hroom, htaken]
  · rw [hheld htake, if_neg (by omega)]

end Sys2Proof.Machine

/-! SUPPORT. Labels one by one (chapter 6): the end of a label written out, ROW_STEP and MARK by the
head-current label, and a label's way in and out of the head port (O46, O49, O50). -/

namespace Sys2Proof.Machine

/-! ### The end of a label -/

/-- A label's pending padded delivery discarded; another label's stands (R119). -/
theorem State.dropPendingPad_eq (s : State) (i : Half) : s.dropPendingPad i = { s with
    head := { s.head with pendingPad := s.head.pendingPad.filter fun q => q.label ≠ i } } := by
  have hkept (h : (s.head.pendingPad.filter fun q => q.label ≠ i) = s.head.pendingPad) :
      s = { s with
        head := { s.head with pendingPad := s.head.pendingPad.filter fun q => q.label ≠ i } } := by
    rw [h]
  unfold State.dropPendingPad
  split
  · next q hpad =>
    split
    · next h =>
      have hnone : (s.head.pendingPad.filter fun q => q.label ≠ i) = none := by
        rw [hpad, Option.filter_some_neg (by simp [h])]
      rw [hnone]
      rfl
    · next h => exact hkept (by rw [hpad, Option.filter_some_pos (by simp [h])])
  · next hpad => exact hkept (by rw [hpad, Option.filter_none])

/-- The end of a label told apart by its ring index, up to its render (R69, R118, R119). -/
theorem State.endLabel_of_only {s : State} {l : LabelEntry} (h : s.onlyLabel l)
    (hopen : l.printStatus ≠ .ended) (st : Status) (fi : Half) :
    s.endLabel l.ringIndex st fi = ({ s with
      labels := replaceLabel s.labels l (l.atEnd st fi)
      bands := s.bands.freed fun b => decide (b.owner = some (.label l.ringIndex) ∧
        (b.state = .ready ∨ b.state = .printing))
      printQueue := s.printQueue.filter fun i => !decide ((s.bands.get i).owner =
        some (.label l.ringIndex) ∧ ((s.bands.get i).state = .ready ∨
          (s.bands.get i).state = .printing))
      head := { s.head with
        pendingPad := s.head.pendingPad.filter fun q => q.label ≠ l.ringIndex } } :
        State).stopLabelRender l := by
  rw [State.endLabel, State.findLabel_of_only h]
  dsimp only
  rw [if_neg hopen, State.dropPendingPad_eq, State.takeBack,
    State.freeBands_freed _ _ (fun b => decide (b.owner = some (.label l.ringIndex) ∧
      (b.state = .ready ∨ b.state = .printing))) fun _ => rfl, State.updateLabel_eq,
    State.map_updateEntry h]

/-- A change made by ring index to a label just replaced. -/
theorem map_updateEntry_replaceLabel {ls : List LabelEntry} {l a : LabelEntry}
    (ha : a.ringIndex = l.ringIndex) (f : LabelEntry → LabelEntry) :
    (replaceLabel ls l a).map (updateEntry l.ringIndex f) = replaceLabel ls l (f a) := by
  unfold replaceLabel
  rw [List.map_map]
  refine List.map_congr_left fun m _ => ?_
  simp only [Function.comp, updateEntry]
  by_cases h : m.ringIndex = l.ringIndex <;> simp [h, ha]

/-- Settles O49: the label, its buffers and its padding, then its render by the three cases of R98. -/
theorem labelEnds : Obligations.LabelEnds := by
  intro l st fi s honly
  constructor
  · intro hended
    rw [State.endLabel, State.findLabel_of_only honly]
    exact if_pos hended
  · intro hopen renders cut back
    rw [State.endLabel_of_only honly hopen]
    unfold State.stopLabelRender
    by_cases hrenders : renders
    · have hcut : ¬cut := fun h => h.1 hrenders
      simp only [if_pos hrenders, if_neg hcut]
      exact if_pos hrenders
    · refine (if_neg hrenders).trans ?_
      simp only [if_neg hrenders]
      by_cases hrendering : l.renderStatus = .rendering
      · have hcut : cut := ⟨hrenders, hrendering⟩
        simp only [if_pos hcut, if_pos hrendering]
        rw [State.setRenderStatus, State.updateLabel_eq, map_updateEntry_replaceLabel (by rfl)]
        rfl
      · have hcut : ¬cut := fun h => hrendering h.2
        simp only [if_neg hcut, if_neg hrendering]
        rfl

/-! ### ROW_STEP and MARK -/

section Steps

variable {s : State} {p : SetupParams} {l : LabelEntry}

theorem exec_rowStep (hlive : s.resetHeld = false) (hparams : s.engine.params = some p)
    (hworking : s.engine.state = .running ∨ s.engine.state = .draining)
    (hhead : headCurrent s.labels = some l) : exec .rowStep s = .next (s.rowStep p l).settle := by
  show execRowStep s = _
  rw [execRowStep]
  refine State.act_effect hlive ?_
  simp only [hparams, hhead, State.working_of hworking, if_true]

/-- With no label at the head, or outside RUNNING and DRAINING, a ROW_STEP is ignored (R104). -/
theorem exec_rowStep_ignored (hlive : s.resetHeld = false)
    (h : (s.engine.state ≠ .running ∧ s.engine.state ≠ .draining) ∨ headCurrent s.labels = none) :
    exec .rowStep s = .next s.settle := by
  show execRowStep s = _
  rw [execRowStep]
  refine State.act_effect hlive ?_
  obtain ⟨h, h'⟩ | h := h
  · have hidle : s.working = false := by simp [State.working, h, h']
    split
    · simp [hidle]
    · rfl
  · cases hparams : s.engine.params <;> simp [h]

/-- A ROW_STEP by the print status of the head-current label (Table 6-6). -/
theorem State.rowStep_waiting (h : l.printStatus = .waiting) : s.rowStep p l = s := by
  rw [State.rowStep, h]

theorem State.rowStep_aligning (h : l.printStatus = .aligning) : s.rowStep p l = s.countStep l := by
  rw [State.rowStep, h]

theorem State.rowStep_printing (h : l.printStatus = .printing) : s.rowStep p l =
    if l.length ≤ l.cursor then s
    else match s.head.delivery with
      | none => s.dueRow p l
      | some _ => s.earlyStep l := by
  rw [State.rowStep, h] <;> rfl

theorem exec_mark (hlive : s.resetHeld = false)
    (hworking : s.engine.state = .running ∨ s.engine.state = .draining)
    (hhead : headCurrent s.labels = some l) :
    exec .mark s = .next (if l.printStatus = .aligning then
      s.updateLabel l.ringIndex fun l => { l with printStatus := .printing } else s).settle := by
  show execMark s = _
  rw [execMark]
  refine State.act_effect hlive ?_
  simp only [hhead, State.working_of hworking, true_and]

/-- With no label at the head, or outside RUNNING and DRAINING, a MARK is ignored (R102). -/
theorem exec_mark_ignored (hlive : s.resetHeld = false)
    (h : (s.engine.state ≠ .running ∧ s.engine.state ≠ .draining) ∨ headCurrent s.labels = none) :
    exec .mark s = .next s.settle := by
  show execMark s = _
  rw [execMark]
  refine State.act_effect hlive ?_
  obtain ⟨h, h'⟩ | h := h
  · have hidle : s.working = false := by simp [State.working, h, h']
    split
    · simp [hidle]
    · rfl
  · simp only [h]

end Steps

/-- One label of the list changed, in the statements' terms. -/
theorem State.updateLabel_of_only {s : State} {l : LabelEntry} (h : s.onlyLabel l)
    (f : LabelEntry → LabelEntry) :
    s.updateLabel l.ringIndex f = { s with labels := replaceLabel s.labels l (f l) } := by
  rw [State.updateLabel_eq, State.map_updateEntry h]

/-- Settles O46, by the print status of the head-current label. -/
theorem stepsAndMarks : Obligations.StepsAndMarks := by
  intro s hlive
  refine ⟨fun h => ⟨exec_rowStep_ignored hlive h, exec_mark_ignored hlive h⟩,
    fun l p hworking hparams hhead honly => ?_⟩
  rw [exec_rowStep hlive hparams hworking hhead, exec_mark hlive hworking hhead]
  refine ⟨fun h => ?_, fun h => ?_, fun h => ?_⟩
  · rw [State.rowStep_waiting h, if_neg (by simp [h])]
    exact ⟨rfl, rfl⟩
  · rw [if_pos h, State.updateLabel_of_only honly, State.rowStep_aligning h, State.countStep,
      State.updateLabel_of_only honly]
    refine ⟨rfl, fun hmore => ?_, fun hlast => ?_⟩
    · exact congrArg (fun t => Host.Outcome.next (State.settle t)) (if_neg (by omega))
    · exact congrArg (fun t => Host.Outcome.next (State.settle t)) (if_pos hlast)
  · rw [State.rowStep_printing h, if_neg (by simp [h])]
    exact ⟨rfl, fun hpassed => by rw [if_pos hpassed]⟩

/-! ### Leaving WAITING and the list -/

theorem LabelEntry.atRest_iff (l : LabelEntry) : l.atRest = true ↔
    l.printStatus = .ended ∧ (l.renderStatus = .rendered ∨ l.renderStatus = .cut) := by
  simp [LabelEntry.atRest]

/-- The first label of the list that is at rest, and the list without it. -/
theorem find_eraseP_atRest {before rest : List LabelEntry} {l : LabelEntry}
    (hbefore : ∀ m ∈ before, ¬m.atRest = true) (hl : l.atRest = true) :
    (before ++ l :: rest).find? LabelEntry.atRest = some l ∧
      (before ++ l :: rest).eraseP LabelEntry.atRest = before ++ rest := by
  constructor
  · rw [List.find?_append, List.find?_eq_none.2 hbefore, List.find?_cons_of_pos hl]
    rfl
  · rw [List.eraseP_append_right _ hbefore, List.eraseP_cons_of_pos hl]

/-- Settles O50: WAITING left or not by its conditions, then the first label at rest removed. -/
theorem labelStartsAndLeaves : Obligations.LabelStartsAndLeaves := by
  intro l s hlive hworking honly
  refine ⟨fun hhead => ?_, fun before rest st hlabels hst hbefore hended hrender => ?_⟩
  · have hexec : exec .leaveWaiting s = .next (if l.printStatus = .waiting ∧
        s.head.delivery = none ∧ s.head.pendingPad = none then s.startHead l else s).settle := by
      show execLeaveWaiting s = _
      rw [execLeaveWaiting]
      refine State.act_effect hlive ?_
      simp only [hhead, State.working_of hworking, true_and]
    rw [hexec]
    refine ⟨fun hwaiting hdelivery hpad => ?_, fun h => ?_⟩
    · rw [if_pos ⟨hwaiting, hdelivery, hpad⟩, State.startHead, State.updateLabel_eq,
        State.setHead_labels, State.map_updateEntry honly]
      rfl
    · rw [if_neg]
      rintro ⟨hwaiting, hdelivery, hpad⟩
      obtain h | h | h := h
      · exact h hwaiting
      · exact h hdelivery
      · exact h hpad
  · obtain ⟨hfind, herase⟩ := find_eraseP_atRest (rest := rest)
      (fun m hm => fun hrest => by
        obtain ⟨h, h'⟩ := m.atRest_iff.1 hrest
        obtain hb | ⟨hb, hb'⟩ := hbefore m hm
        · exact hb h
        · exact h'.elim hb hb') (l.atRest_iff.2 ⟨hended, hrender⟩)
    show execLabelLeavesList s = _
    rw [execLabelLeavesList]
    refine State.act_effect hlive ?_
    simp only [hlabels, hfind, State.working_of hworking, if_true]
    rw [State.removeLabel, hlabels, herase, LabelEntry.results, hst]
    rfl

end Sys2Proof.Machine

/-! SUPPORT. The aborts (R92, R120, R134, R160): the flush of a ring, the end of every label, and the image
job by its phase (O29 to O31). -/

namespace Sys2Proof.Machine

/-! ### The flush of a ring -/

/-- A load after its ring's abort: a STATE's is ended, a job's stands (R92). -/
def StateLoad.flushed (ld : StateLoad) : StateLoad :=
  match ld.job with
  | .state _ => { ld with aborted := true }
  | .label _ | .image => ld

theorem State.abortStateLoad_eq (s : State) (r : Ring) : s.abortStateLoad r = { s with
    loads := s.loads.set r ((s.loads.get r).map StateLoad.flushed) } := by
  have hkept (h : (s.loads.get r).map StateLoad.flushed = s.loads.get r) :
      s = { s with loads := s.loads.set r ((s.loads.get r).map StateLoad.flushed) } := by
    rw [h, PerRing.set_get]
  unfold State.abortStateLoad
  split
  · next ld hload =>
    split
    · next i hjob =>
      rw [hload, Option.map_some, StateLoad.flushed, hjob]
      rfl
    · next i hjob => exact hkept (by rw [hload, Option.map_some, StateLoad.flushed, hjob])
    · next hjob => exact hkept (by rw [hload, Option.map_some, StateLoad.flushed, hjob])
  · next hload => exact hkept (by rw [hload, Option.map_none])

section Flush

variable {s : State} {r : Ring}

/-- A flush that does not begin (Table 8-10). -/
theorem State.beginFlush_kept (h : s.engine.state ≠ .running ∨ (s.rings.get r).state.faulted = true ∨
    ((s.rings.get r).state = .active ∧ (s.rings.get r).posted = 0)) : s.beginFlush r = s := by
  unfold State.beginFlush
  dsimp only
  split
  · next hrunning =>
    obtain h | h := h.resolve_left (by simp [hrunning])
    · split <;> simp_all [RingState.faulted]
    · rw [h.1]
      simp [h.2]
  · rfl

/-- A flush that begins: up to the producer index, a held LABEL first (R151, R160). -/
theorem State.beginFlush_begun (hrunning : s.engine.state = .running)
    (h : (s.rings.get r).state = .active ∧ (s.rings.get r).posted ≠ 0 ∨
      ∃ b, (s.rings.get r).state = .flushing b) :
    s.beginFlush r = (s.setRingState r (.flushing (s.rings.get r).producer)).flushHeld r := by
  unfold State.beginFlush
  dsimp only
  rw [if_pos hrunning]
  obtain ⟨hactive, hposted⟩ | ⟨b, hflushing⟩ := h
  · rw [hactive]
    exact if_pos (Nat.pos_of_ne_zero hposted)
  · rw [hflushing]

theorem State.flushHeld_of_not_held (h : ∀ d, (s.rings.get r).take ≠ .held d) : s.flushHeld r = s := by
  unfold State.flushHeld
  split
  · next d _ htake => exact absurd htake (h d)
  · rfl

theorem State.flushHeld_of_held {b : Half} {d : BitVec 256}
    (hflushing : (s.rings.get r).state = .flushing b) (hheld : (s.rings.get r).take = .held d) :
    s.flushHeld r = s.takeFlushed r d := by
  unfold State.flushHeld
  rw [hflushing, hheld]

/-- A flush begun with no LABEL held (R160). -/
theorem State.beginFlush_of_not_held (hrunning : s.engine.state = .running)
    (h : (s.rings.get r).state = .active ∧ (s.rings.get r).posted ≠ 0 ∨
      ∃ b, (s.rings.get r).state = .flushing b)
    (hheld : ∀ d, (s.rings.get r).take ≠ .held d) :
    s.beginFlush r = { s with
      rings := s.rings.set r
        { s.rings.get r with state := .flushing (s.rings.get r).producer } } := by
  rw [State.beginFlush_begun hrunning h, State.flushHeld_of_not_held]
  · rfl
  · simpa [State.setRingState] using hheld

/-- A flush begun with a LABEL held takes it first, as FLUSHED (R151, R161). -/
theorem State.beginFlush_of_held (hrunning : s.engine.state = .running)
    (h : (s.rings.get r).state = .active ∧ (s.rings.get r).posted ≠ 0 ∨
      ∃ b, (s.rings.get r).state = .flushing b) {d : BitVec 256}
    (hheld : (s.rings.get r).take = .held d) :
    s.beginFlush r = { s with
      rings := s.rings.set r { s.rings.get r with
        consumer := (s.rings.get r).consumer + 1#16
        take := .none
        state :=
          if (s.rings.get r).consumer + 1#16 = (s.rings.get r).producer then .active
          else .flushing (s.rings.get r).producer }
      completion := { s.completion with
        retire := s.completion.retire.set r (s.completion.retire.get r ++
          [finishedEntry (s.rings.get r).consumer (d.extractLsb' 16 16) (d.extractLsb' 0 8)
            .flushed]) } } := by
  rw [State.beginFlush_begun hrunning h, State.flushHeld_of_held (b := (s.rings.get r).producer) (d := d)
    (by simp [State.setRingState]) (by simpa [State.setRingState] using hheld),
    State.takeFlushed_eq (b := (s.rings.get r).producer) (by simp [State.setRingState])]
  simp only [State.setRingState, State.setRing, PerRing.get_set_self, PerRing.set_set]
  rfl

/-- A flush changes its ring's record and queue alone, and the queue only when it takes a held LABEL. -/
theorem State.beginFlush_frame (s : State) (r : Ring) : ∃ x q,
    s.beginFlush r = { s with
      rings := s.rings.set r x
      completion := { s.completion with retire := s.completion.retire.set r q } } ∧
    ((∀ d, (s.rings.get r).take ≠ .held d) → q = s.completion.retire.get r) := by
  by_cases h : s.engine.state = .running ∧ ((s.rings.get r).state = .active ∧ (s.rings.get r).posted ≠ 0 ∨
      ∃ b, (s.rings.get r).state = .flushing b)
  · by_cases hheld : ∃ d, (s.rings.get r).take = .held d
    · obtain ⟨d, hheld⟩ := hheld
      exact ⟨_, _, State.beginFlush_of_held h.1 h.2 hheld, fun hnot => absurd hheld (hnot d)⟩
    · have hnot : ∀ d, (s.rings.get r).take ≠ .held d := fun d hd => hheld ⟨d, hd⟩
      refine ⟨{ s.rings.get r with state := .flushing (s.rings.get r).producer },
        s.completion.retire.get r, ?_, fun _ => rfl⟩
      rw [State.beginFlush_of_not_held h.1 h.2 hnot, PerRing.set_get]
  · have hkept : s.beginFlush r = s := by
      refine State.beginFlush_kept ?_
      by_cases hrunning : s.engine.state = .running
      · refine .inr ?_
        cases hstate : (s.rings.get r).state <;> simp_all [RingState.faulted]
      · exact .inl hrunning
    refine ⟨s.rings.get r, s.completion.retire.get r, ?_, fun _ => rfl⟩
    rw [hkept, PerRing.set_get, PerRing.set_get]

end Flush

/-- An abort in RUNNING or DRAINING: its jobs ended, which leaves the rings as they are, then its STATE and
its flush. -/
theorem exec_abort {s : State} (hlive : s.resetHeld = false)
    (hworking : s.engine.state = .running ∨ s.engine.state = .draining) (r : Ring) : ∃ u : State,
    exec (match r with | .print => .abortPrint | .image => .abortImage) s =
      .next ((u.abortStateLoad r).beginFlush r).settle ∧
    u.rings = s.rings ∧ u.cause = s.cause ∧ u.engine = s.engine ∧ u.loads = s.loads := by
  have hworks := State.working_of hworking
  cases r
  · have hkept := s.abortLabels_control
    exact ⟨s.abortLabels, State.act_effect (f := fun s => if s.working then _ else _) hlive (if_pos hworks),
      State.rings_of_control hkept, State.cause_of_control hkept, State.engine_of_control hkept,
      State.loads_of_control hkept⟩
  · refine ⟨s.abortImageJob,
      State.act_effect (f := fun s => if s.working then _ else _) hlive (if_pos hworks), ?_⟩
    obtain hkept | ⟨i, res, hkept⟩ := s.abortImageJob_control
    · exact ⟨State.rings_of_control hkept, State.cause_of_control hkept, State.engine_of_control hkept,
        State.loads_of_control hkept⟩
    · exact ⟨(State.rings_of_control hkept).trans rfl, (State.cause_of_control hkept).trans rfl,
        (State.engine_of_control hkept).trans rfl, (State.loads_of_control hkept).trans rfl⟩

/-- Settles O29: the frame of a flush, then the load and the ring's record case by case. -/
theorem abortFlushes : Obligations.AbortFlushes := by
  intro r s hlive hworking x
  obtain ⟨u, hexec, hrings, hcause, hengine, hloads⟩ := exec_abort hlive hworking r
  have hx : (u.abortStateLoad r).rings.get r = x := by rw [State.abortStateLoad_eq, hrings]
  have hstate : (u.abortStateLoad r).engine = s.engine := by rw [State.abortStateLoad_eq, hengine]
  obtain ⟨y, q, hframe, -⟩ := (u.abortStateLoad r).beginFlush_frame r
  have hload : ((u.abortStateLoad r).beginFlush r).loads.get r =
      (s.loads.get r).map StateLoad.flushed := by
    rw [hframe, State.abortStateLoad_eq, ← hloads]
    exact PerRing.get_set_self _ _ _
  refine ⟨_, hexec, ?_, ?_, ?_, ?_, fun ld i hld hjob => ?_, fun hjob => ?_, fun h => ?_,
    fun hrunning h => ⟨fun hheld => ?_, fun d hheld => ?_⟩⟩
  · rw [State.settle_rings, hframe, State.abortStateLoad_eq, ← hrings]
    exact PerRing.get_set_other _ _ _
  · rw [State.settle_cause, hframe, State.abortStateLoad_eq, hcause]
  · rw [State.settle_engine, hframe, State.abortStateLoad_eq, hengine]
  · rw [State.settle_loads, hframe, State.abortStateLoad_eq, ← hloads]
    exact PerRing.get_set_other _ _ _
  · rw [State.settle_loads, hload, hld, Option.map_some, StateLoad.flushed, hjob]
  · rw [State.settle_loads, hload]
    cases hld : s.loads.get r with
    | none => rfl
    | some ld =>
      rw [Option.map_some, StateLoad.flushed]
      cases hj : ld.job with
      | label i => rfl
      | image => rfl
      | state i => exact absurd hj (hjob ld i hld)
  · rw [State.settle_rings, State.beginFlush_kept, hx]
    rw [hx, hstate]
    obtain h | h := h
    · exact .inl (by simp [h])
    · exact .inr h
  · rw [State.settle_rings, State.beginFlush_of_not_held (by rw [hstate, hrunning]) (by rw [hx]; exact h)
      (by rw [hx]; exact hheld), hx]
    exact PerRing.get_set_self _ _ _
  · rw [State.settle_rings, State.settle_completion, State.beginFlush_of_held (by rw [hstate, hrunning])
      (by rw [hx]; exact h) (by rw [hx]; exact hheld), hx]
    exact ⟨PerRing.get_set_self _ _ _, _, PerRing.get_set_self _ _ _⟩

/-- What an abort does after its jobs have ended: its ring's load, record and queue alone change. -/
theorem State.abortTail_frame (s : State) (r : Ring) : ∃ x q,
    (s.abortStateLoad r).beginFlush r = { s with
      rings := s.rings.set r x
      loads := s.loads.set r ((s.loads.get r).map StateLoad.flushed)
      completion := { s.completion with retire := s.completion.retire.set r q } } ∧
    ((∀ d, (s.rings.get r).take ≠ .held d) → q = s.completion.retire.get r) := by
  obtain ⟨x, q, hframe, hq⟩ := (s.abortStateLoad r).beginFlush_frame r
  rw [hframe, State.abortStateLoad_eq]
  rw [State.abortStateLoad_eq] at hq
  exact ⟨x, q, rfl, hq⟩

/-! ### Every label ended (R120) -/

/-- A label after ABORT_PRINT, its band render in flight or not in the state `s` (R98, R118). -/
def LabelEntry.abortedIn (s : State) (l : LabelEntry) : LabelEntry :=
  if l.printStatus = .ended then l
  else { l.atEnd .aborted noObject with
    renderStatus :=
      if ¬s.rendersJob (.label l.ringIndex) = true ∧ l.renderStatus = .rendering then .cut
      else l.renderStatus }

@[simp] theorem LabelEntry.abortedIn_ringIndex (s : State) (l : LabelEntry) :
    (l.abortedIn s).ringIndex = l.ringIndex := by
  unfold LabelEntry.abortedIn
  split <;> rfl

/-- Whether a buffer is taken back when some labels end (R69). -/
def BandBuffer.takenBack (b : BandBuffer) (ended : List LabelEntry) : Bool :=
  ended.any (fun l => decide (l.printStatus ≠ .ended ∧ b.owner = some (.label l.ringIndex))) &&
    decide (b.state = .ready ∨ b.state = .printing)

theorem BandBuffer.takenBack_iff (b : BandBuffer) (ended : List LabelEntry) :
    b.takenBack ended = true ↔
      (∃ l ∈ ended, l.printStatus ≠ .ended ∧ b.owner = some (.label l.ringIndex)) ∧
        (b.state = .ready ∨ b.state = .printing) := by
  simp [BandBuffer.takenBack]

/-- The state `t` after the end of the labels `done` of `s`, with the labels `rest` still to end. -/
structure State.AbortedTo (s : State) (done rest : List LabelEntry) (t : State) : Prop where
  labels : t.labels = done.map (LabelEntry.abortedIn s) ++ rest
  bands : ∀ i, t.bands.get i =
    if (s.bands.get i).takenBack done then { s.bands.get i with state := .free, owner := none }
    else s.bands.get i
  renders : ∀ o, t.rendersJob o = s.rendersJob o
  image : t.image = s.image
  walker : t.walkers.image = s.walkers.image
  table : t.tables.image = s.tables.image
  delivery : t.head.delivery = s.head.delivery

theorem Bands.get_freed (b : Bands) (sel : BandBuffer → Bool) (i : BufferId) :
    (b.freed sel).get i =
      if sel (b.get i) then { b.get i with state := .free, owner := none } else b.get i := by
  fin_cases i <;> rfl

/-- Which job renders depends on the job of the band render alone. -/
theorem State.rendersJob_of_render {s t : State}
    (h : t.render.map RenderRecord.job = s.render.map RenderRecord.job) (o : Owner) :
    t.rendersJob o = s.rendersJob o := by
  have hjob (u : State) : u.rendersJob o = decide (u.render.map RenderRecord.job = some o) := by
    unfold State.rendersJob
    cases u.render <;> simp
  rw [hjob, hjob, h]

/-- The end of one label more. -/
theorem State.AbortedTo.endLabel {s t : State} {done rest : List LabelEntry} {l : LabelEntry}
    (h : s.AbortedTo done (l :: rest) t)
    (hnodup : ((done ++ l :: rest).map LabelEntry.ringIndex).Nodup) :
    s.AbortedTo (done ++ [l]) rest (t.endLabel l.ringIndex .aborted noObject) := by
  obtain ⟨hlabels, hbands, hrenders, himage, hwalker, htable, hdelivery⟩ := h
  have hother : ∀ m ∈ done ++ rest, m.ringIndex ≠ l.ringIndex := by
    rw [List.map_append, List.map_cons, List.nodup_middle, List.nodup_cons, ← List.map_append] at hnodup
    exact fun m hm e => hnodup.1 (e ▸ List.mem_map_of_mem hm)
  have honly : t.onlyLabel l := by
    refine ⟨by simp [hlabels], fun m hm e => ?_⟩
    rw [hlabels, List.mem_append, List.mem_map, List.mem_cons] at hm
    obtain ⟨n, hn, rfl⟩ | rfl | hm := hm
    · exact absurd ((n.abortedIn_ringIndex s).symm.trans e) (hother n (by simp [hn]))
    · rfl
    · exact absurd e (hother m (by simp [hm]))
  obtain ⟨hkept, hended⟩ := labelEnds l .aborted noObject t honly
  by_cases hopen : l.printStatus = .ended
  · rw [hkept hopen]
    refine ⟨?_, fun i => ?_, hrenders, himage, hwalker, htable, hdelivery⟩
    · simp [hlabels, LabelEntry.abortedIn, hopen]
    · rw [hbands i]
      congr 1
      simp [BandBuffer.takenBack, hopen]
  · have hrenders' : t.rendersJob (.label l.ringIndex) = s.rendersJob (.label l.ringIndex) := hrenders _
    rw [hended hopen]
    refine ⟨?_, fun i => ?_, fun o => ?_, himage, ?_, ?_, hdelivery⟩
    · have hfresh {ms : List LabelEntry} (hms : ∀ m ∈ ms, m.ringIndex ≠ l.ringIndex) (new : LabelEntry) :
          replaceLabel ms l new = ms :=
        (List.map_congr_left fun m hm => if_neg (hms m hm)).trans (List.map_id _)
      have hdone (m : LabelEntry) (hm : m ∈ done.map (LabelEntry.abortedIn s)) :
          m.ringIndex ≠ l.ringIndex := by
        obtain ⟨n, hn, rfl⟩ := List.mem_map.1 hm
        rw [LabelEntry.abortedIn_ringIndex]
        exact hother n (by simp [hn])
      have hsplit (new : LabelEntry) : replaceLabel t.labels l new =
          done.map (LabelEntry.abortedIn s) ++ new :: rest := by
        rw [hlabels]
        calc replaceLabel (done.map (LabelEntry.abortedIn s) ++ l :: rest) l new
            = replaceLabel (done.map (LabelEntry.abortedIn s)) l new ++
              (if l.ringIndex = l.ringIndex then new else l) :: replaceLabel rest l new := by
              simp only [replaceLabel, List.map_append, List.map_cons]
          _ = done.map (LabelEntry.abortedIn s) ++ new :: rest := by
              rw [hfresh hdone, hfresh fun m hm => hother m (by simp [hm]), if_pos rfl]
      dsimp only
      rw [hsplit, hrenders', List.map_append, List.map_singleton, List.append_assoc,
        List.singleton_append, LabelEntry.abortedIn, if_neg hopen]
      rfl
    · dsimp only
      rw [Bands.get_freed, hbands i]
      by_cases hdone : (s.bands.get i).takenBack done = true
      · have hall : (s.bands.get i).takenBack (done ++ [l]) = true := by
          rw [BandBuffer.takenBack_iff] at hdone ⊢
          obtain ⟨⟨m, hm, hrest⟩, hstate⟩ := hdone
          exact ⟨⟨m, by simp [hm], hrest⟩, hstate⟩
        simp [hdone, hall]
      · simp only [if_neg hdone, decide_eq_true_eq]
        congr 1
        rw [BandBuffer.takenBack_iff] at hdone ⊢
        refine propext ⟨fun ⟨howner, hstate⟩ => ⟨⟨l, by simp, hopen, howner⟩, hstate⟩, ?_⟩
        rintro ⟨⟨m, hm, hm', howner⟩, hstate⟩
        obtain hm | hm := List.mem_append.1 hm
        · exact absurd ⟨⟨m, hm, hm', howner⟩, hstate⟩ hdone
        · cases List.mem_singleton.1 hm
          exact ⟨howner, hstate⟩
    · refine (State.rendersJob_of_render ?_ o).trans (hrenders o)
      dsimp only
      split
      · rw [Option.map_map]
        rfl
      · rfl
    · dsimp only
      split <;> exact hwalker
    · dsimp only
      split <;> exact htable

/-- Every label of the list ended. -/
theorem State.abortLabels_abortedTo {s : State} (hnodup : (s.labels.map LabelEntry.ringIndex).Nodup) :
    s.AbortedTo s.labels [] s.abortLabels := by
  have ends (done rest : List LabelEntry) (hsplit : done ++ rest = s.labels) : s.AbortedTo done rest
      (done.foldl (fun t l => t.endLabel l.ringIndex .aborted noObject) s) := by
    induction done using List.reverseRecOn generalizing rest with
    | nil => exact ⟨by simpa using hsplit.symm, fun i => by simp [BandBuffer.takenBack], fun _ => rfl,
        rfl, rfl, rfl, rfl⟩
    | append_singleton done l ih =>
      rw [List.foldl_append]
      refine (ih (l :: rest) (by simpa using hsplit)).endLabel ?_
      have : done ++ l :: rest = s.labels := by simpa using hsplit
      rwa [this]
  exact ends s.labels [] (by simp)

/-- Settles O30: every label ended one by one, and the flush leaves labels and buffers alone. -/
theorem abortPrintEndsLabels : Obligations.AbortPrintEndsLabels := by
  intro s hlive hworking hnodup
  have hexec : exec .abortPrint s =
      .next ((s.abortLabels.abortStateLoad .print).beginFlush .print).settle :=
    State.act_effect (f := fun s => if s.working then _ else _) hlive
      (if_pos (State.working_of hworking))
  obtain ⟨x, q, hframe, -⟩ := s.abortLabels.abortTail_frame .print
  obtain ⟨hlabels, hbands, -, himage, hwalker, htable, hdelivery⟩ := State.abortLabels_abortedTo hnodup
  have hloads := congrArg PerRing.image (State.loads_of_control s.abortLabels_control)
  have hstates := State.renderStates_of_control s.abortLabels_control
  have hretire : s.abortLabels.completion.retire.image = s.completion.retire.image := by
    rw [State.completion_of_control s.abortLabels_control]
  refine ⟨_, hexec, ?_, fun i => ?_, ?_⟩ <;> rw [hframe]
  · rw [State.settle_labels, hlabels, List.append_nil, List.forall₂_map_right_iff, List.forall₂_same]
    intro l _
    rw [LabelEntry.abortedIn]
    refine ⟨fun hended => if_pos hended, fun hopen => ?_⟩
    rw [if_neg hopen]
    refine ⟨rfl, fun hother => if_neg fun h => hother h.2, fun hrendering => ?_⟩
    by_cases hrenders : s.rendersJob (.label l.ringIndex) = true
    · rw [if_pos hrenders]
      exact (if_neg fun h => h.1 hrenders).trans hrendering
    · rw [if_neg hrenders]
      exact if_pos ⟨hrenders, hrendering⟩
  · rw [State.settle_bands, hbands i]
    congr 1
    exact propext (BandBuffer.takenBack_iff _ _)
  · exact ⟨himage, hloads, hwalker, htable, hstates, hdelivery, hretire⟩

/-! ### The image job by its phase (R134) -/

/-- What ABORT_IMAGE leaves alone: the labels, the print side, both render states and the PRINT queue. -/
def State.printSide (s : State) : List LabelEntry × List BufferId × HeadPort × WalkerContext ×
    List TableEntry × PerRing RenderState × Option StateLoad × List RetireEntry :=
  (s.labels, s.printQueue, s.head, s.walkers.print, s.tables.print, s.renderStates, s.loads.print,
    s.completion.retire.print)

@[simp] theorem State.freeBand_printSide (s : State) (i : BufferId) :
    (s.freeBand i).printSide = s.printSide := rfl

@[simp] theorem State.endImage_printSide (s : State) (st : Status) (fi : Half) :
    (s.endImage st fi).printSide = s.printSide := by
  unfold State.endImage
  dsimp only
  split <;> rfl

@[simp] theorem State.imageLeaves_printSide (s : State) : s.imageLeaves.printSide = s.printSide := by
  unfold State.imageLeaves
  split <;> rfl

@[simp] theorem State.abortImageJob_printSide (s : State) :
    s.abortImageJob.printSide = s.printSide := by
  unfold State.abortImageJob
  split
  · rfl
  · split
    · rfl
    · dsimp only
      split
      · simp
      · simp
      · simp
      · simp
      · split <;> simp [State.dropImage]

/-- The image job gone from flight, its entry finished with its results (R136). -/
theorem State.imageLeaves_eq {s : State} {j : ImageJob} (hj : s.image = some j) :
    s.imageLeaves = { s with
      image := none
      completion := { s.completion with
        retire := ⟨s.completion.retire.print, s.completion.retire.image.map fun e =>
          if e.ringIndex = j.ringIndex ∧ e.results = none then { e with results := some j.results }
          else e⟩ } } := by
  rw [State.imageLeaves, hj]
  rfl

/-- The end of an image job with no status yet (R31, R134). -/
theorem State.endImage_eq {s : State} {j : ImageJob} (hj : s.image = some j)
    (hopen : j.report.status = none) (st : Status) (fi : Half) :
    s.endImage st fi = { s with
      image := some { j with report := { j.report with status := some st, faultIndex := fi } }
      render :=
        if s.rendersJob .image then s.render.map fun r => { r with cutPending := true } else s.render
      walkers :=
        if s.rendersJob .image then s.walkers else ⟨s.walkers.print, WalkerContext.empty⟩
      tables := if s.rendersJob .image then s.tables else ⟨s.tables.print, []⟩ } := by
  have hended : s.updateImage (ImageJob.atEnd st fi) = { s with
      image := some { j with report := { j.report with status := some st, faultIndex := fi } } } := by
    rw [State.updateImage, hj, Option.map_some, ImageJob.atEnd, hopen]
    rfl
  rw [State.endImage, hended]
  have hrenders : ({ s with image := some { j with
      report := { j.report with status := some st, faultIndex := fi } } } : State).rendersJob .image =
        s.rendersJob .image := rfl
  dsimp only
  rw [hrenders]
  split <;> rfl

section Phases

variable {s : State} {j : ImageJob}

theorem State.abortImageJob_of_ended (hj : s.image = some j) (hended : j.report.status ≠ none) :
    s.abortImageJob = s := by
  obtain ⟨st, hst⟩ := Option.ne_none_iff_exists'.1 hended
  rw [State.abortImageJob, hj]
  dsimp only
  rw [hst]

/-- The job ended stands while a load, a band render or a row write is in flight (Table 7-4). -/
theorem State.abortImageJob_of_busy (hj : s.image = some j) (hopen : j.report.status = none)
    (h : j.phase = .loading ∨ j.phase = .rendering ∨ (j.phase = .writing ∧ j.write ≠ none)) :
    s.abortImageJob = s.endImage .aborted noObject := by
  rw [State.abortImageJob, hj]
  dsimp only
  rw [hopen]
  dsimp only
  obtain h | h | ⟨h, hwrite⟩ := h
  · rw [h]
  · rw [h]
  · obtain ⟨w, hw⟩ := Option.ne_none_iff_exists'.1 hwrite
    rw [h, hw]

/-- Between bands the job leaves flight at once (Table 7-4). -/
theorem State.abortImageJob_of_requesting (hj : s.image = some j) (hopen : j.report.status = none)
    (h : j.phase = .requesting) :
    s.abortImageJob = (s.endImage .aborted noObject).imageLeaves := by
  rw [State.abortImageJob, hj]
  dsimp only
  rw [hopen]
  dsimp only
  rw [h]

/-- With no row write issued the job leaves flight with its buffer (Table 7-4). -/
theorem State.abortImageJob_of_writing (hj : s.image = some j) (hopen : j.report.status = none)
    (h : j.phase = .writing) (hwrite : j.write = none) {i : BufferId} (hi : j.buffer = some i) :
    s.abortImageJob = (s.endImage .aborted noObject).dropImage i := by
  rw [State.abortImageJob, hj]
  dsimp only
  rw [hopen]
  dsimp only
  rw [h, hwrite, hi]

/-- An ended job's render, walker context and table are as its end leaves them. -/
theorem State.abortImageJob_render (hj : s.image = some j) (hopen : j.report.status = none) :
    s.abortImageJob.render = (s.endImage .aborted noObject).render ∧
    s.abortImageJob.walkers = (s.endImage .aborted noObject).walkers ∧
    s.abortImageJob.tables = (s.endImage .aborted noObject).tables := by
  have leaves (t : State) : t.imageLeaves.render = t.render ∧ t.imageLeaves.walkers = t.walkers ∧
      t.imageLeaves.tables = t.tables := by
    unfold State.imageLeaves
    split <;> exact ⟨rfl, rfl, rfl⟩
  rw [State.abortImageJob, hj]
  dsimp only
  rw [hopen]
  dsimp only
  split
  · exact ⟨rfl, rfl, rfl⟩
  · exact ⟨rfl, rfl, rfl⟩
  · exact ⟨rfl, rfl, rfl⟩
  · exact leaves _
  · split
    · exact leaves ((s.endImage .aborted noObject).freeBand _)
    · exact leaves _
    · exact ⟨rfl, rfl, rfl⟩

end Phases

/-- Settles O31: the end of the job, then its phase; the flush leaves the image job alone. -/
theorem abortImageByPhase : Obligations.AbortImageByPhase := by
  intro s hlive hworking
  have hexec : exec .abortImage s =
      .next ((s.abortImageJob.abortStateLoad .image).beginFlush .image).settle :=
    State.act_effect (f := fun s => if s.working then _ else _) hlive
      (if_pos (State.working_of hworking))
  obtain ⟨x, q, hframe, hq⟩ := s.abortImageJob.abortTail_frame .image
  have hside := s.abortImageJob_printSide
  have hrings : s.abortImageJob.rings = s.rings := by
    obtain h | ⟨i, res, h⟩ := s.abortImageJob_control
    · exact State.rings_of_control h
    · exact (State.rings_of_control h).trans rfl
  simp only [State.printSide, Prod.mk.injEq] at hside
  obtain ⟨hlabels, hqueue, hhead, hwalker, htable, hstates, hload, hretire⟩ := hside
  rw [hexec, hframe]
  refine ⟨_, rfl, hlabels, hqueue, hhead, hwalker, htable, hstates, hload, hretire, ?_, ?_⟩
  · intro j hj ended finished leaves
    rw [hrings] at hq
    refine ⟨fun hended => ?_, fun hopen => ?_⟩
    · have hkept := State.abortImageJob_of_ended hj hended
      rw [hkept]
      exact ⟨hj, rfl, rfl, rfl, rfl⟩
    · have hend := State.endImage_eq hj hopen .aborted noObject
      have hended : (s.endImage .aborted noObject).image = some ended := by rw [hend]; rfl
      obtain ⟨hrender, hwalkers, htables⟩ := State.abortImageJob_render hj hopen
      rw [hend] at hrender hwalkers htables
      have hleaves := State.imageLeaves_eq hended
      refine ⟨fun r hr hjob => ?_, fun hjob => ?_, fun h => ?_, fun h => ?_, fun i h hwrite hi => ?_⟩
      · have hrenders : s.rendersJob .image = true := by simp [State.rendersJob, hr, hjob]
        simp only [hrenders, if_true, hr] at hrender hwalkers htables
        exact ⟨hrender, hwalkers, htables⟩
      · have hrenders : s.rendersJob .image = false := by
          unfold State.rendersJob
          cases hr : s.render with
          | none => rfl
          | some r => exact decide_eq_false (hjob r hr)
        simp only [hrenders, Bool.false_eq_true, if_false] at hrender hwalkers htables
        have hwalker' : s.abortImageJob.walkers.image = WalkerContext.empty := by rw [hwalkers]
        have htable' : s.abortImageJob.tables.image = [] := by rw [htables]
        exact ⟨hrender, hwalker', htable'⟩
      · have hkept := State.abortImageJob_of_busy hj hopen h
        have hbands : s.abortImageJob.bands = s.bands := by rw [hkept, hend]
        exact ⟨(congrArg State.image hkept :).trans hended, hbands⟩
      · have hgone := State.abortImageJob_of_requesting hj hopen h
        rw [hleaves, hend] at hgone
        have himage : s.abortImageJob.image = none := by rw [hgone]
        have hbands := congrArg State.bands hgone
        refine ⟨⟨himage, fun hheld => (hq hheld).trans ?_⟩, hbands⟩
        rw [hgone]
        rfl
      · have hgone := State.abortImageJob_of_writing hj hopen h hwrite hi
        rw [State.dropImage, State.imageLeaves_eq (s := (s.endImage .aborted noObject).freeBand i) hended,
          hend] at hgone
        have himage : s.abortImageJob.image = none := by rw [hgone]
        have hbands := congrArg State.bands hgone
        refine ⟨⟨himage, fun hheld => (hq hheld).trans ?_⟩, hbands⟩
        rw [hgone]
        rfl
  · intro hnone
    have : s.abortImageJob = s := by rw [State.abortImageJob, hnone]
    rw [this]
    exact ⟨hnone, rfl, rfl⟩

end Sys2Proof.Machine

/-! SUPPORT. The bytes of chapter 11 once more: state records, object records and completion records
(O33, O37, O51), and the completion write that carries the last (O52). -/

namespace Sys2Proof.Machine

/-! ### State records -/

/-- The groups byte is the record's first (R83). -/
theorem groupPresent_eq (d : BitVec 384) {group : Nat} (h : group < 8) :
    groupPresent d group = d.getLsbD group := by
  simp [groupPresent, byteAt, h]

theorem opOfCode_isSome_iff (code : Nat) : (opOfCode code).isSome = true ↔ code ≤ 3 := by
  match code with
  | 0 | 1 | 2 | 3 => simp [opOfCode]
  | n + 4 => simp [opOfCode]

/-- The checks of Table 5-2, group by group. -/
theorem stateRecordValid_iff (d : BitVec 384) : stateRecordValid d = true ↔
    (d.getLsbD 3 = true → (byteAt d 24).toNat ≤ 3) ∧
    (d.getLsbD 4 = true → (halfAt d 28).toNat ≤ 4096 ∧ (wordAt d 32).toNat % 8 = 0) ∧
    (d.getLsbD 6 = true → -16 ≤ (byteAt d 25).toInt ∧ (byteAt d 25).toInt ≤ 15) ∧
    (d.getLsbD 7 = true → 1 ≤ (byteAt d 26).toNat ∧ (byteAt d 26).toNat ≤ 8) := by
  have hcheck (b c : Bool) : (!b || c) = true ↔ (b = true → c = true) := by
    cases b <;> simp
  simp only [stateRecordValid, groupPresent_eq, Nat.reduceLT, Bool.and_eq_true, hcheck,
    opOfCode_isSome_iff, decide_eq_true_eq, aligned, and_assoc]

/-- Settles O33: the checks, then each group of the applied record, present or absent. -/
theorem stateRecords : Obligations.StateRecords := by
  refine ⟨stateRecordValid_iff, fun d x hvalid => ?_⟩
  have hop := ((stateRecordValid_iff d).1 hvalid).1
  have hgroup {group : Nat} {b : Bool} (hlt : group < 8) (h : d.getLsbD group = b) :
      groupPresent d group = b := (groupPresent_eq d hlt).trans h
  refine ⟨fun h => ?_, fun h => ?_, fun h => ?_, fun h => ?_, fun h => ?_, fun h => ?_, fun h => ?_,
    fun h => ?_, fun h => ?_, fun h => ?_, fun h => ?_, fun h => ?_, fun h => ?_, fun h => ?_,
    fun h => ?_, fun h => ?_⟩
  case refine_8 =>
    have hcode : (byteAt d 24).toNat ≤ 3 := hop h
    show (applyStateRecord d x).defaultOp = match (byteAt d 24).toNat with
      | 0 => .set | 1 => .clear | 2 => .invert | _ => .replace
    unfold applyStateRecord
    dsimp only
    rw [if_pos (hgroup (by omega) h)]
    generalize (byteAt d 24).toNat = code at hcode
    interval_cases code <;> rfl
  all_goals
    have hpresent := hgroup (by omega) h
    simp only [applyStateRecord, hpresent, Bool.false_eq_true, if_true, if_false, and_self, byteAt, halfAt,
      wordAt, Nat.reduceMul]

/-! ### Object records -/

/-- The op of a record is a concrete one, or DEFAULT (R17). -/
theorem readObjectOp_isSome_iff (code : Nat) :
    (readObjectOp code).isSome = true ↔ code ≤ 3 ∨ code = 7 := by
  unfold readObjectOp
  split
  · next h => simp [h]
  · next h => simp [h, opOfCode_isSome_iff]

theorem aligned_two_iff (v : Word) : aligned 2 v = true ↔ v.getLsbD 0 = false := by
  simp only [aligned, decide_eq_true_eq, BitVec.getLsbD, Nat.testBit_zero, decide_eq_false_iff_not]
  omega

/-- A TEXT's string is aligned by the lowest bit of its address (R18). -/
theorem aligned_stringAddress_iff (d : BitVec 256) :
    aligned 2 (wordAt d 8) = true ↔ d.getLsbD 64 = false := by
  rw [aligned_two_iff, wordAt, BitVec.getLsbD_extractLsb']
  rfl

section Bodies

variable (kind width : Nat) (d : BitVec 256)

/-- The checks of Table 2-2, kind by kind (R16, R18). -/
theorem readObjectBody_isSome_iff : (readObjectBody kind width d).isSome = true ↔
    (kind = 1 ∧ 1 ≤ (halfAt d 8).toNat ∧ (halfAt d 8).toNat ≤ 4096 ∧ 1 ≤ (halfAt d 10).toNat) ∨
    (kind = 2 ∧ (byteAt d 12).toNat ≤ 8) ∨
    (kind = 3 ∧ 1 ≤ (halfAt d 8).toNat ∧ (halfAt d 8).toNat ≤ 2048 ∧ 1 ≤ (halfAt d 10).toNat ∧
      (halfAt d 10).toNat ≤ 4096 ∧ (halfAt d 12).toNat ≤ 256 ∧
      ((halfAt d 8).toNat + 7) / 8 ≤ (halfAt d 12).toNat ∧ 1 ≤ (byteAt d 14).toNat ∧
      (byteAt d 14).toNat ≤ 4 ∧ 1 ≤ (byteAt d 15).toNat ∧ (byteAt d 15).toNat ≤ 4) ∨
    (kind = 4 ∧ d.getLsbD 64 = false ∧ 1 ≤ (halfAt d 12).toNat ∧ (halfAt d 12).toNat ≤ 256 ∧
      1 ≤ (byteAt d 14).toNat + (byteAt d 15).toNat) ∨
    (kind = 5 ∧ 1 ≤ (halfAt d 12).toNat ∧ (halfAt d 12).toNat ≤ 512 ∧ 1 ≤ (byteAt d 14).toNat ∧
      (byteAt d 14).toNat ≤ 16 ∧ 1 ≤ (halfAt d 16).toNat) := by
  have hsome {p : Prop} [Decidable p] (b : ObjectBody) :
      (if p then some b else none).isSome = true ↔ p := by
    split <;> simp [*]
  match kind with
  | 1 => simp [readObjectBody, hsome]
  | 2 => simp [readObjectBody, hsome]
  | 3 =>
    simp only [readObjectBody, hsome, true_and, Nat.reduceEqDiff, false_and, or_false, false_or]
    unfold ceilBytes
    omega
  | 4 => simp [readObjectBody, hsome, aligned_stringAddress_iff]
  | 5 => simp [readObjectBody, hsome]
  | 0 => simp [readObjectBody]
  | n + 6 => simp [readObjectBody]

/-- The fields of a body that passes its checks, kind by kind (R16, R19). -/
theorem readObjectBody_eq_some {body : ObjectBody} (h : readObjectBody kind width d = some body) :
    (kind = 1 → body = .rule (halfAt d 8).toNat (halfAt d 10).toNat) ∧
    (kind = 2 → body = .stroke (halfAt d 8).toInt (halfAt d 10).toInt
      (if (byteAt d 12).toNat = 0 then width else (byteAt d 12).toNat)) ∧
    (kind = 3 → body = .bitmap (halfAt d 8).toNat (halfAt d 10).toNat (halfAt d 12).toNat
      (byteAt d 14).toNat (byteAt d 15).toNat (wordAt d 16) (wordAt d 20).toNat) ∧
    (kind = 4 → body = .text (wordAt d 8) (halfAt d 12).toNat (byteAt d 14).toNat
      (byteAt d 15).toNat) ∧
    (kind = 5 → body = .bars (wordAt d 8) (halfAt d 12).toNat (byteAt d 14).toNat
      (halfAt d 16).toNat) := by
  have hsome {p : Prop} [Decidable p] {a b : ObjectBody} (h : (if p then some a else none) = some b) :
      b = a := by
    split at h
    · exact (Option.some.inj h).symm
    · exact absurd h (by simp)
  refine ⟨?_, ?_, ?_, ?_, ?_⟩ <;> rintro rfl <;> exact hsome h

end Bodies

/-- A record is read when its body and its op pass their checks (R16 to R18). -/
theorem readObject_isSome_iff (rs : RenderState) (d : BitVec 256) :
    (readObject rs d).isSome = true ↔ ((byteAt d 1).toNat ≤ 3 ∨ (byteAt d 1).toNat = 7) ∧
      (readObjectBody (byteAt d 0).toNat rs.strokeWidth d).isSome = true := by
  rw [← readObjectOp_isSome_iff, readObject]
  cases readObjectBody (byteAt d 0).toNat rs.strokeWidth d <;>
    cases readObjectOp (byteAt d 1).toNat <;> simp

theorem readObject_eq_some {rs : RenderState} {d : BitVec 256} {f : ObjectFields}
    (h : readObject rs d = some f) :
    readObjectBody (byteAt d 0).toNat rs.strokeWidth d = some f.body ∧
    readObjectOp (byteAt d 1).toNat = some f.op ∧ f.pattern = (byteAt d 2).getLsbD 0 ∧
    f.x = (halfAt d 4).toInt ∧ f.y = (halfAt d 6).toInt := by
  unfold readObject at h
  split at h
  · next body op hbody hop =>
    cases h
    exact ⟨hbody, hop, rfl, rfl, rfl⟩
  · exact absurd h (by simp)

/-- Settles O37: the checks, the fields of a record that passes them, the extents and the start. -/
theorem objectChecks : Obligations.ObjectChecks := by
  intro rs d u8 u16 s16 u32 op
  refine ⟨?_, fun f hf => ?_, fun o => ?_, fun body => ?_⟩
  · rw [readObject_isSome_iff, readObjectBody_isSome_iff]
    rfl
  · obtain ⟨hbody, hop, hpattern, hx, hy⟩ := readObject_eq_some hf
    have hcode {code : Nat} (h : u8 1 = code) : readObjectOp code = some f.op := h ▸ hop
    refine ⟨fun h => ?_, fun h => ?_, fun h => ?_, fun h => ?_, fun h => ?_, ?_, hx, hy,
      readObjectBody_eq_some _ _ d hbody⟩
    · exact (Option.some.inj (hcode h)).symm
    · exact (Option.some.inj (hcode h)).symm
    · exact (Option.some.inj (hcode h)).symm
    · exact (Option.some.inj (hcode h)).symm
    · exact (Option.some.inj (hcode h)).symm
    · rw [hpattern, byteAt, BitVec.getLsbD_extractLsb']
      rfl
  · unfold extent
    cases o.body <;> rfl
  · cases body <;> rfl

/-! ### Completion records -/

theorem Status.code_toNat (st : Status) : st.code.toNat = (match st with
    | .ok => 0 | .aborted => 1 | .flushed => 2 | .badKind => 3 | .badDescriptor => 4
    | .stateFault => 5 | .objectFault => 6 | .fetchError => 7 | .writeError => 8
    | .tableFull => 9 | .underrun => 10 | .noMark => 11) := by
  cases st <;> rfl

theorem Warnings.code_bits (w : Warnings) :
    w.code.getLsbD 0 = w.lateObject ∧ w.code.getLsbD 1 = w.shortSource ∧
    w.code.getLsbD 2 = w.glyphMissing ∧ w.code.getLsbD 3 = w.padded ∧
    w.code.extractLsb' 4 4 = 0#4 := by
  obtain ⟨_ | _, _ | _, _ | _, _ | _⟩ := w <;> decide

/-- A field of a record is the field of its byte or half word. -/
theorem extractLsb'_sub {n : Nat} (d : BitVec n) (start len start' len' : Nat)
    (h : start' + len' ≤ len) :
    (d.extractLsb' start len).extractLsb' start' len' = d.extractLsb' (start + start') len' := by
  ext i hi
  simp only [BitVec.getElem_extractLsb', BitVec.getLsbD_extractLsb', Nat.add_assoc]
  rw [decide_eq_true (by omega), Bool.true_and]

/-- Each field at its place (Table 11-7). -/
theorem completionRecord_fields (r : Ring) (e : RetireEntry) (res : Results) :
    let d := completionRecord r e res
    d.extractLsb' 0 16 = e.tag ∧ d.extractLsb' 16 16 = e.ringIndex ∧ d.extractLsb' 32 8 = e.kind ∧
    d.extractLsb' 40 8 = res.status.code ∧ d.extractLsb' 48 8 = ringCode r ∧
    d.extractLsb' 56 8 = res.warnings.code ∧
    d.extractLsb' 64 16 = BitVec.ofNat 16 res.rowsPadded ∧ d.extractLsb' 80 16 = res.signature ∧
    d.extractLsb' 96 16 = BitVec.ofNat 16 res.admitted ∧ d.extractLsb' 112 16 = res.faultIndex := by
  intro d
  refine ⟨?_, ?_, ?_, ?_, ?_, ?_, ?_, ?_, ?_, ?_⟩ <;>
    simp (disch := omega) only [d, completionRecord, BitVec.extractLsb'_append_eq_of_le, Nat.reduceSub,
      BitVec.extractLsb'_append_eq_right, BitVec.extractLsb'_eq_self]

/-- Settles O51, field by field; the warnings byte bit by bit. -/
theorem completionRecordBytes : Obligations.CompletionRecordBytes := by
  intro r e res d
  obtain ⟨htag, hindex, hkind, hstatus, hring, hwarnings, hrows, hsignature, hadmitted, hfault⟩ :=
    completionRecord_fields r e res
  obtain ⟨hlate, hshort, hglyph, hpadded, hrest⟩ := res.warnings.code_bits
  have hbit (i : Nat) (hi : i < 8) : d.getLsbD (56 + i) = res.warnings.code.getLsbD i := by
    rw [← hwarnings, BitVec.getLsbD_extractLsb', decide_eq_true hi, Bool.true_and]
  refine ⟨htag, hindex, hkind, ?_, ?_, (hbit 0 (by omega)).trans hlate,
    (hbit 1 (by omega)).trans hshort, (hbit 2 (by omega)).trans hglyph,
    (hbit 3 (by omega)).trans hpadded, ?_, hrows, hsignature, hadmitted, hfault⟩
  · exact (congrArg BitVec.toNat hstatus).trans res.status.code_toNat
  · rw [hring]
    cases r <;> rfl
  · rw [← hrest, ← hwarnings, extractLsb'_sub _ _ _ _ _ (by omega)]
/-! ### The completion write -/

section Writes

variable {s : State} {p : SetupParams}

/-- A start of a completion write chooses among the ready records while the port is free (R172). -/
theorem exec_completionWriteStart (hlive : s.resetHeld = false) (hparams : s.engine.params = some p)
    (hworking : s.engine.state = .running ∨ s.engine.state = .draining) :
    exec .completionWriteStart s =
      .next (if s.completion.write = none then s.choosePort p else s).settle := by
  show execCompletionWriteStart s = _
  rw [execCompletionWriteStart]
  refine State.act_effect hlive ?_
  simp only [hparams, State.working_of hworking, true_and]

theorem exec_completionWriteEnd (hlive : s.resetHeld = false) (hparams : s.engine.params = some p)
    (hworking : s.engine.state = .running ∨ s.engine.state = .draining) {w : CompletionWrite}
    (hw : s.completion.write = some w) (result : BusWrite) :
    exec (.completionWriteEnd result) s = .next (match result with
      | .acknowledged => s.post p w
      | .busError => s.endWrite.enterHalted w.ring).settle := by
  show execCompletionWriteEnd result s = _
  rw [execCompletionWriteEnd]
  refine State.act_effect hlive ?_
  simp only [hparams, hw, State.working_of hworking, if_true] <;> rfl

/-- The choice of the port with one ring ready (Table 9-6). -/
theorem State.choosePort_one {r : Ring} {e : RetireEntry} {res : Results}
    (h : s.readyRecord r = some (e, res)) (hother : s.readyRecord r.other = none) :
    s.choosePort p = s.beginWrite p r e res := by
  cases r <;> simp only [Ring.other] at hother <;> rw [State.choosePort, h, hother]

/-- The choice of the port with both rings ready: the turn's ring, and the turn passes on (R172). -/
theorem State.choosePort_both {e e' : RetireEntry} {res res' : Results}
    (h : s.readyRecord .print = some (e, res)) (h' : s.readyRecord .image = some (e', res')) :
    s.choosePort p = match s.completion.postingTurn with
      | .print => s.passPostingTurn.beginWrite p .print e res
      | .image => s.passPostingTurn.beginWrite p .image e' res' := by
  rw [State.choosePort, h, h'] <;> rfl

/-- The halt changes the engine, CAUSE and the delivery, and counts what is discarded (R174, R194). -/
theorem State.enterHalted_eq (s : State) (r : Ring) : s.enterHalted r = { s with
    engine := { s.engine with
      state := .halted
      haltReason := match r with | .print => .printRecord | .image => .imageRecord
      discarded := s.countDiscarded.engine.discarded }
    cause := s.cause ||| 0b000100#6
    head := { s.head with delivery := none }
    freeCount := s.countDiscarded.freeCount } := by
  unfold State.enterHalted
  dsimp only
  rw [State.countDiscarded_eq s]
  rfl

theorem State.le_countDiscarded (s : State) :
    s.engine.discarded ≤ s.countDiscarded.engine.discarded := by
  by_cases h : s.engine.state = .halted
  · rw [State.countDiscarded_of_halted h]
  · rw [State.countDiscarded_discarded h]
    omega

end Writes

theorem State.causeSet_completion (s : State) : s.causeSet .completion = s.cause.getLsbD 0 := by
  have hbit (c : BitVec 6) : (c &&& Cause.completion.mask != 0#6) = c.getLsbD 0 := by
    revert c
    decide
  exact hbit s.cause

/-- Settles O52: the port's choice, then the write's end by its result and the coalescing rules. -/
theorem completionWrites : Obligations.CompletionWrites := by
  intro p s hlive hparams hworking c writing
  have hstart := exec_completionWriteStart hlive hparams hworking
  refine ⟨fun hfree => ?_, fun w hw => ?_⟩
  · rw [hstart, if_pos hfree]
    refine ⟨fun r e res h hother => ?_, fun e res e' res' h h' => ?_, fun h => ?_⟩
    · rw [State.choosePort_one h hother]
      rfl
    · rw [State.choosePort_both h h']
      have hturn : s.completion.postingTurn = c.postingTurn := rfl
      rw [State.passPostingTurn, hturn]
      cases c.postingTurn <;> rfl
    · rw [State.choosePort, h .print, h .image]
  · intro posted unconsumed
    have hend := exec_completionWriteEnd hlive hparams hworking hw
    have hposted {u : State} (h : (s.setCompletion posted).coalescePosting p = u) :
        exec (.completionWriteEnd .acknowledged) s = .next u.settle :=
      (hend .acknowledged).trans (congrArg (fun t => Host.Outcome.next (State.settle t)) h)
    have hcompletion : (s.setCompletion posted).causeSet .completion = s.cause.getLsbD 0 :=
      State.causeSet_completion _
    refine ⟨?_, fun h => hposted (if_pos h), fun h hkept => hposted ?_,
      fun h htime htimer hcause => hposted ?_, _, hend .busError, ?_, ?_⟩
    · rw [hstart, if_neg (by rw [show s.completion.write = some w from hw]; simp)]
    · refine (if_neg (Nat.not_le.2 h)).trans (if_neg ?_)
      rintro ⟨hcause, htimer, htime⟩
      obtain h | h | h := hkept
      · omega
      · exact h htimer
      · exact absurd (h.symm.trans (hcompletion.symm.trans hcause)) (by decide)
    · exact (if_neg (Nat.not_le.2 h)).trans (if_pos ⟨hcompletion.trans hcause, htimer,
        Nat.pos_of_ne_zero htime⟩)
    · dsimp only
      rw [State.enterHalted_eq]
      rfl
    · dsimp only
      rw [State.enterHalted_eq]
      exact s.endWrite.le_countDiscarded

end Sys2Proof.Machine

/-! SUPPORT. The end of a state-record load by what it serves (O34). -/

namespace Sys2Proof.Machine

/-- The status of a load that brings no valid record (R87). -/
def loadFailure : BusRead (BitVec 384) → Status
  | .busError => .fetchError
  | .data _ => .stateFault

section Ends

variable {s : State} {r : Ring} {ld : StateLoad} {result : BusRead (BitVec 384)}

theorem exec_stateRecordLoadEnd (hlive : s.resetHeld = false)
    (hworking : s.engine.state = .running ∨ s.engine.state = .draining)
    (hload : s.loads.get r = some ld) :
    exec (.stateRecordLoadEnd r result) s = .next (s.endLoad r ld result).settle := by
  show execStateRecordLoadEnd r result s = _
  rw [execStateRecordLoadEnd]
  refine State.act_effect hlive ?_
  simp only [hload, State.working_of hworking, if_true]

/-- A load of a job that has ended has its data discarded (R92). -/
theorem State.endLoad_dropped (h : s.loadDiscarded ld = true) :
    s.endLoad r ld result = (s.setLoad r none).loadDropped r ld := if_pos h

/-- A load with a valid record applies it (R86). -/
theorem State.endLoad_applied (h : s.loadDiscarded ld = false) {d : BitVec 384}
    (hvalid : stateRecordValid d = true) :
    s.endLoad r ld (.data d) = (s.setLoad r none).loadApplied r ld d := by
  simp [State.endLoad, h, hvalid]

/-- A load with no valid record fails (R87). -/
theorem State.endLoad_failed (h : s.loadDiscarded ld = false)
    (hbad : ¬∃ d, result = .data d ∧ stateRecordValid d = true) :
    s.endLoad r ld result = (s.setLoad r none).loadFailed r ld (loadFailure result) := by
  cases result with
  | busError => simp [State.endLoad, h, loadFailure]
  | data d =>
    have hinvalid : stateRecordValid d = false := by simpa using hbad
    simp [State.endLoad, h, hinvalid, loadFailure]

end Ends

section Kept

variable (s : State) (r : Ring) (ld : StateLoad)

/-- What a load's end may change only for the load itself and for the ring's render state. -/
def State.stateSide : PerRing (Option StateLoad) × PerRing RingRecord × PerRing RenderState :=
  (s.loads, s.rings, s.renderStates)

theorem State.stateSide_of_control {s t : State} (h : t.control = s.control) :
    t.stateSide = s.stateSide := by
  simp only [State.stateSide, State.loads_of_control h, State.rings_of_control h,
    State.renderStates_of_control h]

theorem State.imageLeaves_stateSide {s t : State} (h : t.control = s.control) :
    t.imageLeaves.stateSide = s.stateSide := by
  obtain h | ⟨i, res, h⟩ := State.imageLeaves_control h
  · exact State.stateSide_of_control h
  · exact (State.stateSide_of_control h).trans rfl

theorem State.loadDropped_stateSide : (s.loadDropped r ld).stateSide = s.stateSide := by
  unfold State.loadDropped
  split
  · rfl
  · exact State.imageLeaves_stateSide rfl
  · rfl

theorem State.loadFailed_stateSide (st : Status) : (s.loadFailed r ld st).stateSide = s.stateSide := by
  unfold State.loadFailed
  split
  · exact State.stateSide_of_control (by simp)
  · exact State.imageLeaves_stateSide (s.endImage_control _ _)
  · rfl

theorem State.loadApplied_stateSide (d : BitVec 384) : (s.loadApplied r ld d).stateSide =
    (s.loads, s.rings, s.renderStates.set r (applyStateRecord d (s.renderStates.get r))) := by
  have applied {u : State}
      (h : u.control =
        (s.setRenderState r (applyStateRecord d (s.renderStates.get r))).control) :
      u.stateSide = (s.loads, s.rings,
        s.renderStates.set r (applyStateRecord d (s.renderStates.get r))) :=
    (State.stateSide_of_control h).trans rfl
  unfold State.loadApplied
  dsimp only
  split
  · exact applied (by simp)
  · exact applied (by simp)
  · rfl

end Kept

section Served

variable {s : State} {r : Ring} {ld : StateLoad} {result : BusRead (BitVec 384)}

/-- Only a valid record of a load that is not discarded changes the ring's render state (R86, R92). -/
theorem State.endLoad_kept
    (h : s.loadDiscarded ld = true ∨ ¬∃ d, result = .data d ∧ stateRecordValid d = true) :
    (s.endLoad r ld result).stateSide = (s.loads.set r none, s.rings, s.renderStates) := by
  obtain ⟨-, e⟩ | ⟨-, st, e⟩ | ⟨hopen, d, hd, hvalid, e⟩ := s.endLoad_cases r ld result
  · rw [e, State.loadDropped_stateSide]
    rfl
  · rw [e, State.loadFailed_stateSide]
    rfl
  · obtain h | h := h
    · exact absurd (hopen.symm.trans h) (by decide)
    · exact absurd ⟨d, hd, hvalid⟩ h

/-- Whatever it serves, an ended load is gone and the rings stand as they were. -/
theorem State.endLoad_loads_rings (s : State) (r : Ring) (ld : StateLoad)
    (result : BusRead (BitVec 384)) :
    (s.endLoad r ld result).loads = s.loads.set r none ∧
      (s.endLoad r ld result).rings = s.rings := by
  have of_side {u : State} {x : PerRing RenderState}
      (h : u.stateSide = (s.loads.set r none, s.rings, x)) :
      u.loads = s.loads.set r none ∧ u.rings = s.rings :=
    ⟨congrArg Prod.fst h, congrArg (fun y => y.2.1) h⟩
  obtain ⟨-, h⟩ | ⟨-, st, h⟩ | ⟨-, d, -, -, h⟩ := s.endLoad_cases r ld result <;> rw [h]
  · exact of_side (State.loadDropped_stateSide _ r ld)
  · exact of_side (State.loadFailed_stateSide _ r ld st)
  · exact of_side (State.loadApplied_stateSide _ r ld d)

/-- The ring's render state takes a valid record of a load that is not discarded (R86). -/
theorem State.endLoad_taken (h : s.loadDiscarded ld = false) {d : BitVec 384}
    (hvalid : stateRecordValid d = true) : (s.endLoad r ld (.data d)).renderStates =
      s.renderStates.set r (applyStateRecord d (s.renderStates.get r)) := by
  rw [State.endLoad_applied h hvalid]
  exact congrArg (fun y => y.2.2) (State.loadApplied_stateSide _ r ld d)

/-! ### A STATE -/

/-- The end of a STATE's load finishes its entry with one status (R91, R92). -/
theorem State.endLoad_state {i : Half} (hjob : ld.job = .state i) :
    (s.endLoad r ld result).completion.retire = s.completion.retire.set r
      ((s.completion.retire.get r).map (RetireEntry.finish i (plainResults
        (if ld.aborted then .aborted
          else match result with
          | .busError => .fetchError
          | .data d => if stateRecordValid d then .ok else .stateFault)))) ∧
      (s.endLoad r ld result).labels = s.labels ∧ (s.endLoad r ld result).image = s.image := by
  have hdiscarded : s.loadDiscarded ld = ld.aborted := by rw [State.loadDiscarded, hjob]
  unfold State.endLoad
  rw [hdiscarded]
  cases ld.aborted with
  | true => simp only [if_true, State.loadDropped, hjob]; exact ⟨rfl, rfl, rfl⟩
  | false =>
    cases result with
    | busError => simp only [State.loadFailed, hjob]; exact ⟨rfl, rfl, rfl⟩
    | data d =>
      by_cases hvalid : stateRecordValid d = true
      · simp only [hvalid, if_true, Bool.false_eq_true, if_false, State.loadApplied, hjob]
        exact ⟨rfl, rfl, rfl⟩
      · simp only [hvalid, Bool.false_eq_true, if_false, State.loadFailed, hjob]
        exact ⟨rfl, rfl, rfl⟩

/-! ### A label -/

section Labels

variable {l : LabelEntry}

theorem State.loadDiscarded_label (hjob : ld.job = .label l.ringIndex) (h : s.onlyLabel l) :
    s.loadDiscarded ld = decide (l.printStatus = .ended) := by
  rw [State.loadDiscarded, hjob]
  dsimp only
  rw [State.findLabel_of_only h]

theorem State.loadDropped_label (hjob : ld.job = .label l.ringIndex) (h : s.onlyLabel l) :
    s.loadDropped r ld =
      { s with labels := replaceLabel s.labels l { l with renderStatus := .cut } } := by
  rw [State.loadDropped, hjob]
  exact State.updateLabel_of_only h _

/-- A label whose load brought a valid record goes to RENDERING with the walker set up (R21, R89). -/
theorem State.loadApplied_label (hjob : ld.job = .label l.ringIndex) (h : s.onlyLabel l)
    (d : BitVec 384) :
    (s.loadApplied r ld d).labels = replaceLabel s.labels l
        { l with renderStatus := .rendering, report := l.report.setUp } ∧
    (s.loadApplied r ld d).walkers.print =
        ⟨some (.label l.ringIndex), ld.listAddress, ld.objectCount, 0, none⟩ ∧
    (s.loadApplied r ld d).tables.print = [] := by
  rw [State.loadApplied, hjob]
  dsimp only
  rw [State.setRenderStatus, State.updateLabel_of_only (show (s.setRenderState r _).onlyLabel l from h),
    State.setUpWalker, State.updateReport, State.updateLabel_eq]
  refine ⟨?_, rfl, rfl⟩
  exact map_updateEntry_replaceLabel (l := l)
    (a := { l with renderStatus := .rendering }) rfl fun m => { m with report := m.report.setUp }

/-- A label that is not RENDERING keeps its render status at its end (R98). -/
theorem State.stopLabelRender_labels (h : l.renderStatus ≠ .rendering) :
    (s.stopLabelRender l).labels = s.labels := by
  unfold State.stopLabelRender
  rw [if_neg h]
  split <;> rfl

/-- A label whose load failed is ENDED and CUT (R87). -/
theorem State.loadFailed_label (hjob : ld.job = .label l.ringIndex) (h : s.onlyLabel l)
    (hopen : l.printStatus ≠ .ended) (hloading : l.renderStatus = .loading) (st : Status) :
    (s.loadFailed r ld st).labels = replaceLabel s.labels l
      { l with
        renderStatus := .cut
        printStatus := .ended
        report := { l.report with status := some st, faultIndex := 0xFFFF#16 } } := by
  rw [State.loadFailed, hjob]
  dsimp only
  rw [State.endLabel_of_only h hopen, State.setRenderStatus, State.updateLabel,
    State.setLabels_labels, State.stopLabelRender_labels (by simp [hloading])]
  exact map_updateEntry_replaceLabel (l := l) (a := l.atEnd st noObject) rfl
    fun m => { m with renderStatus := .cut }

end Labels

/-! ### The image job -/

section Images

variable {j : ImageJob}

theorem State.loadDiscarded_image (hjob : ld.job = .image) (h : s.image = some j) :
    s.loadDiscarded ld = j.report.status.isSome := by
  rw [State.loadDiscarded, hjob]
  dsimp only
  rw [h]

/-- The image job whose load brought a valid record goes to REQUESTING with the walker set up (R90). -/
theorem State.loadApplied_image (hjob : ld.job = .image) (h : s.image = some j) (d : BitVec 384) :
    (s.loadApplied r ld d).image =
        some { j with phase := .requesting, report := j.report.setUp } ∧
    (s.loadApplied r ld d).walkers.image =
        ⟨some .image, ld.listAddress, ld.objectCount, 0, none⟩ := by
  rw [State.loadApplied, hjob]
  refine ⟨?_, rfl⟩
  show ((s.image.map _).map _) = _
  rw [h]
  rfl

/-- The image job left flight: with its status, or with that of the failed load (R87, R136). -/
theorem State.loadDropped_image (hjob : ld.job = .image) (h : s.image = some j) :
    (s.loadDropped r ld).image = none ∧
    (s.loadDropped r ld).completion.retire = ⟨s.completion.retire.print,
      s.completion.retire.image.map (RetireEntry.finish j.ringIndex j.results)⟩ := by
  rw [State.loadDropped, hjob]
  dsimp only
  rw [State.imageLeaves_eq h]
  exact ⟨rfl, rfl⟩

theorem State.loadFailed_image (hjob : ld.job = .image) (h : s.image = some j)
    (hopen : j.report.status = none) (st : Status) :
    (s.loadFailed r ld st).image = none ∧
    (s.loadFailed r ld st).completion.retire = ⟨s.completion.retire.print,
      s.completion.retire.image.map (RetireEntry.finish j.ringIndex (ImageJob.results
        { j with report := { j.report with status := some st, faultIndex := 0xFFFF#16 } }))⟩ := by
  rw [State.loadFailed, hjob]
  dsimp only
  rw [State.endImage_eq h hopen, State.imageLeaves_eq (by rfl)]
  exact ⟨rfl, rfl⟩

end Images

end Served

/-- Settles O34: a STATE, a label and the image job in turn, each by the load's end. -/
theorem stateLoadEnds : Obligations.StateLoadEnds := by
  intro r result ld s hlive hworking hload good failure
  obtain ⟨hloads, hrings⟩ := s.endLoad_loads_rings r ld result
  have hfailure : loadFailure result = failure := by cases result <;> rfl
  have kept (h : s.loadDiscarded ld = true ∨ ¬good) :
      (s.endLoad r ld result).renderStates = s.renderStates :=
    congrArg (fun x => x.2.2) (State.endLoad_kept h)
  refine ⟨_, exec_stateRecordLoadEnd hlive hworking hload, hloads, hrings, fun i hjob => ?_,
    fun l hjob honly hloading _ => ?_, fun j hjob hj => ?_⟩
  · have hdiscarded : s.loadDiscarded ld = ld.aborted := by rw [State.loadDiscarded, hjob]
    obtain ⟨hretire, hlabels, himage⟩ := State.endLoad_state (s := s) (r := r) (result := result) hjob
    refine ⟨fun hopen d hd hvalid => ?_, fun h => kept (hdiscarded ▸ h), hretire.trans ?_, hlabels,
      himage⟩
    · rw [hd]
      exact State.endLoad_taken (hdiscarded.trans hopen) hvalid
    · refine congrArg _ (List.map_congr_left fun e _ => ?_)
      unfold RetireEntry.finish
      split
      · next h => cases result <;> rfl
      · rfl
  · have hdiscarded := State.loadDiscarded_label hjob honly
    have honly' : (s.setLoad r none).onlyLabel l := honly
    refine ⟨fun hended => ?_, fun hopen d hd hvalid => ?_, fun hopen hbad => ?_⟩
    · have h : s.loadDiscarded ld = true := hdiscarded.trans (decide_eq_true hended)
      refine ⟨kept (.inl h), ?_⟩
      rw [State.settle_labels, State.endLoad_dropped h, State.loadDropped_label hjob honly']
      rfl
    · have h : s.loadDiscarded ld = false := hdiscarded.trans (decide_eq_false hopen)
      obtain ⟨hlabels, hwalker, htable⟩ := State.loadApplied_label (r := r) hjob honly' d
      rw [hd]
      refine ⟨State.endLoad_taken h hvalid, ?_⟩
      rw [State.endLoad_applied h hvalid]
      exact ⟨hlabels, hwalker, htable⟩
    · have h : s.loadDiscarded ld = false := hdiscarded.trans (decide_eq_false hopen)
      refine ⟨kept (.inr hbad), ?_⟩
      rw [State.settle_labels, State.endLoad_failed h hbad, hfailure]
      exact State.loadFailed_label hjob honly' hopen hloading failure
  · have hdiscarded := State.loadDiscarded_image hjob hj
    have hj' : (s.setLoad r none).image = some j := hj
    refine ⟨fun hopen d hd hvalid => ?_, fun h => ?_⟩
    · have h : s.loadDiscarded ld = false := by rw [hdiscarded, hopen]; rfl
      obtain ⟨himage, hwalker⟩ := State.loadApplied_image (r := r) hjob hj' d
      rw [hd]
      refine ⟨State.endLoad_taken h hvalid, ?_⟩
      rw [State.endLoad_applied h hvalid]
      exact ⟨himage, hwalker⟩
    · cases hstatus : j.report.status with
      | some st =>
        have hended : s.loadDiscarded ld = true := by rw [hdiscarded, hstatus]; rfl
        obtain ⟨himage, hretire⟩ := State.loadDropped_image (r := r) hjob hj'
        rw [ImageJob.results, hstatus] at hretire
        rw [State.endLoad_dropped hended]
        exact ⟨(congrArg (fun x => x.2.2) (State.loadDropped_stateSide _ r ld)).trans rfl, himage,
          hretire⟩
      | none =>
        have hopen : s.loadDiscarded ld = false := by rw [hdiscarded, hstatus]; rfl
        have hbad : ¬good := h.resolve_left (by simp [hstatus])
        obtain ⟨himage, hretire⟩ := State.loadFailed_image (r := r) hjob hj' hstatus failure
        rw [State.endLoad_failed hopen hbad, hfailure]
        exact ⟨(congrArg (fun x => x.2.2) (State.loadFailed_stateSide _ r ld _)).trans rfl, himage,
          hretire⟩

end Sys2Proof.Machine

/-! SUPPORT. Packed rows and the CRC-16, and the commands that end a band: its end, its cut and the row
writes of the image (O43, O44, O45). -/

namespace Sys2Proof.Machine

/-! ### Rows, bytes and the CRC-16 -/

/-- The first dots of a row are its own, the rest paper (R130). -/
theorem firstDots_getMsbD (row : Row) {n : Nat} (hn : n ≤ dotsPerRow) (x : Nat) :
    (firstDots n row).getMsbD x = (decide (x < n) && row.getMsbD x) := by
  rw [firstDots, BitVec.getMsbD_and, BitVec.getMsbD_shiftLeft, BitVec.getMsbD_allOnes, Bool.and_comm]
  congr 1
  exact decide_eq_decide.2 (by omega)

/-- Dot 8k of a row is bit 7 of its byte k (R4). -/
theorem rowByte_getLsbD (row : Row) {k i : Nat} (hk : k < 256) (hi : i < 8) :
    (rowByte row k).getLsbD (7 - i) = row.getMsbD (8 * k + i) := by
  have hdots : dotsPerRow = 2048 := rfl
  rw [rowByte, BitVec.getLsbD_extractLsb', BitVec.getMsbD_eq_getLsbD, decide_eq_true (by omega),
    decide_eq_true (by omega)]
  congr 2
  omega

theorem rowBytes_length (row : Row) (n : Nat) : (rowBytes row n).length = n := by simp [rowBytes]

theorem rowBytes_getD (row : Row) {n k : Nat} (hk : k < n) :
    (rowBytes row n).getD k 0#8 = rowByte row k := by simp [rowBytes, hk]

/-- The bytes of a row, dot by dot (R4). -/
theorem rowBytes_getLsbD (row : Row) {n k i : Nat} (hn : n ≤ 256) (hk : k < n) (hi : i < 8) :
    ((rowBytes row n).getD k 0#8).getLsbD (7 - i) = row.getMsbD (8 * k + i) := by
  rw [rowBytes_getD row hk, rowByte_getLsbD row (by omega) hi]

/-! ### The end of a band render -/

section Renders

variable {s : State} {p : SetupParams} {r : RenderRecord}

theorem exec_bandRenderEnd (hlive : s.resetHeld = false) (hparams : s.engine.params = some p)
    (hworking : s.engine.state = .running ∨ s.engine.state = .draining) (hr : s.render = some r)
    (hstep : r.step = .retire) (hcut : r.cutPending = false) :
    exec .bandRenderEnd s = .next (s.endRender p r).settle := by
  show execBandRenderEnd s = _
  rw [execBandRenderEnd]
  refine State.act_effect hlive ?_
  simp only [hparams, hr, State.working_of hworking, hstep, hcut, and_self, if_true]

/-- The end of a label's band: its buffer placed by the cursor, its last band empties the side (R31,
R64). -/
theorem State.endPrintRender_eq {l : LabelEntry} (h : s.onlyLabel l) :
    s.endPrintRender p r l = { s with
      bands := s.bands.set r.buffer (if r.last < l.cursor then (s.bands.get r.buffer).toFree
        else { s.bands.get r.buffer with state := .ready })
      printQueue := if r.last < l.cursor then s.printQueue else s.printQueue ++ [r.buffer]
      render := none
      labels := replaceLabel s.labels l { l with
        nextBand := l.nextBand + 1
        renderStatus := if bandCount l.length p.bandHeight ≤ l.nextBand + 1 then .rendered
          else l.renderStatus }
      walkers := if bandCount l.length p.bandHeight ≤ l.nextBand + 1 then
        s.walkers.set .print WalkerContext.empty else s.walkers
      tables := if bandCount l.length p.bandHeight ≤ l.nextBand + 1 then s.tables.set .print []
        else s.tables } := by
  have hplaced : s.placePrintBand r l.cursor = { s with
      bands := s.bands.set r.buffer (if r.last < l.cursor then (s.bands.get r.buffer).toFree
        else { s.bands.get r.buffer with state := .ready })
      printQueue := if r.last < l.cursor then s.printQueue else s.printQueue ++ [r.buffer] } := by
    unfold State.placePrintBand
    split <;> rfl
  unfold State.endPrintRender
  dsimp only
  rw [hplaced, State.updateLabel_of_only (by exact h)]
  split
  · rw [State.setRenderStatus, State.updateLabel_eq]
    dsimp only
    rw [State.setRender, map_updateEntry_replaceLabel (by rfl)]
    rfl
  · rfl

/-- The write of a band's first row takes the buffer's first row (R129). -/
theorem ImageJob.rowWrite_first (j : ImageJob) (b : BandBuffer) : j.rowWrite b b.first =
    ⟨b.first, j.destination + BitVec.ofNat 32 (b.first * j.stride),
      rowBytes (firstDots j.width (b.rows.getD 0 0#dotsPerRow)) ((j.width + 7) / 8)⟩ := by
  rw [ImageJob.rowWrite, Nat.sub_self]
  rfl

theorem State.endImageRender_eq (j : ImageJob) : s.endImageRender p r j = { s with
    bands := s.bands.set r.buffer { s.bands.get r.buffer with state := .draining }
    render := none
    image := some { j with
      phase := .writing
      nextBand := j.nextBand + 1
      write := some (j.rowWrite (s.bands.get r.buffer) (s.bands.get r.buffer).first) }
    walkers := if bandCount j.height p.bandHeight ≤ j.nextBand + 1 then
      s.walkers.set .image WalkerContext.empty else s.walkers
    tables := if bandCount j.height p.bandHeight ≤ j.nextBand + 1 then s.tables.set .image []
      else s.tables } := by
  unfold State.endImageRender
  dsimp only
  split <;> rfl

/-- Settles O43: RETIRE, then the end of the label's or of the image's band. -/
theorem bandRenderEnds : Obligations.BandRenderEnds := by
  intro p r s hlive hparams hworking hr hstep hcut b kept empty
  rw [exec_bandRenderEnd hlive hparams hworking hr hstep hcut]
  refine ⟨fun l hjob hside honly => ?_, fun j hjob hside hj => ?_⟩
  · intro lastBand
    have honly' : (s.setTable r.side (retire r.last (s.tables.get r.side))).onlyLabel l := honly
    rw [State.endRender, hjob]
    dsimp only
    rw [State.findLabel_of_only honly]
    dsimp only
    rw [State.endPrintRender_eq honly', hside, show kept = retire r.last (s.tables.get .print) by
      rw [← hside]; rfl]
    by_cases hlast : bandCount l.length p.bandHeight ≤ l.nextBand + 1
    · simp only [lastBand, if_pos hlast]
      rfl
    · simp only [lastBand, if_neg hlast]
      rfl
  · intro lastBand
    rw [State.endRender, hjob]
    dsimp only
    rw [hj]
    dsimp only
    rw [State.endImageRender_eq, ImageJob.rowWrite_first, hside, show kept = retire r.last (s.tables.get .image) by
      rw [← hside]; rfl]
    by_cases hlast : bandCount j.height p.bandHeight ≤ j.nextBand + 1
    · simp only [lastBand, if_pos hlast]
      rfl
    · simp only [lastBand, if_neg hlast]
      rfl

/-! ### The cut of a band render -/

theorem exec_bandRenderCut (hlive : s.resetHeld = false)
    (hworking : s.engine.state = .running ∨ s.engine.state = .draining) (hr : s.render = some r) :
    exec .bandRenderCut s =
      .next (if r.cutPending ∧ r.read = .none then s.cutRender r else s).settle := by
  show execBandRenderCut s = _
  rw [execBandRenderCut]
  refine State.act_effect hlive ?_
  simp only [hr, State.working_of hworking, true_and]

/-- Settles O44: nothing before the boundary, there the label CUT or the image job gone from flight. -/
theorem bandRenderCuts : Obligations.BandRenderCuts := by
  intro r s hlive hworking hr
  rw [exec_bandRenderCut hlive hworking hr]
  refine ⟨fun h => ?_, fun hcut hread => ?_⟩
  · rw [if_neg]
    rintro ⟨hcut, hread⟩
    obtain h | h := h
    · exact absurd (hcut.symm.trans h) (by decide)
    · exact h hread
  · rw [if_pos ⟨hcut, hread⟩]
    intro cut
    have hbase : ((s.freeBand r.buffer).setRender none).emptyWalker r.side = cut := rfl
    refine ⟨fun l hjob honly => ?_, fun j st hjob hj hst => ?_⟩
    · have honly' : cut.onlyLabel l := honly
      rw [State.cutRender, hjob]
      dsimp only
      rw [hbase, State.setRenderStatus, State.updateLabel_of_only honly']
    · have hj' : cut.image = some j := hj
      rw [State.cutRender, hjob]
      dsimp only
      rw [hbase, State.imageLeaves_eq hj', ImageJob.results, hst]
      rfl

end Renders

/-! ### The image's row writes -/

section Writeback

variable {s : State} {p : SetupParams} {j : ImageJob} {w : RowWrite} {i : BufferId}

theorem exec_rowWriteEnd (hlive : s.resetHeld = false) (hparams : s.engine.params = some p)
    (hworking : s.engine.state = .running ∨ s.engine.state = .draining) (hj : s.image = some j)
    (hphase : j.phase = .writing) (hw : j.write = some w) (hi : j.buffer = some i)
    (result : BusWrite) :
    exec (.rowWriteEnd result) s = .next (s.endRowWrite p j i w result).settle := by
  show execRowWriteEnd result s = _
  rw [execRowWriteEnd]
  refine State.act_effect hlive ?_
  simp only [hparams, hj, hw, hi, State.working_of hworking, hphase, and_self, if_true]

/-- The image job gone from flight with its buffer FREE (R134, R136). -/
theorem State.dropImage_eq (hj : s.image = some j) (i : BufferId) : s.dropImage i = { s with
    bands := s.bands.set i (s.bands.get i).toFree
    image := none
    completion := { s.completion with
      retire := ⟨s.completion.retire.print, s.completion.retire.image.map fun e =>
        if e.ringIndex = j.ringIndex ∧ e.results = none then { e with results := some j.results }
        else e⟩ } } :=
  State.imageLeaves_eq (s := s.freeBand i) hj

/-- The image job ended outside a band render and gone from flight with its buffer FREE (R31, R133). -/
theorem State.endImage_dropImage_eq (hj : s.image = some j) (hopen : j.report.status = none)
    (hrenders : s.rendersJob .image = false) (st : Status) (fi : Half) (i : BufferId) :
    (s.endImage st fi).dropImage i = { s with
      bands := s.bands.set i (s.bands.get i).toFree
      image := none
      walkers := ⟨s.walkers.print, WalkerContext.empty⟩
      tables := ⟨s.tables.print, []⟩
      completion := { s.completion with
        retire := ⟨s.completion.retire.print, s.completion.retire.image.map fun e =>
          if e.ringIndex = j.ringIndex ∧ e.results = none then
            { e with results := some (ImageJob.results
              { j with report := { j.report with status := some st, faultIndex := fi } }) }
          else e⟩ } } := by
  rw [State.endImage_eq hj hopen, hrenders]
  simp only [Bool.false_eq_true, if_false]
  rw [State.dropImage_eq rfl]

/-- The end of a row write by the job's status and the result (R131, R133, R134). -/
theorem State.endRowWrite_ended {st : Status} (h : j.report.status = some st) (result : BusWrite) :
    s.endRowWrite p j i w result = s.dropImage i := by
  unfold State.endRowWrite
  rw [h]

theorem State.endRowWrite_lost (h : j.report.status = none) :
    s.endRowWrite p j i w .busError = (s.endImage .writeError noObject).dropImage i := by
  unfold State.endRowWrite
  rw [h]

theorem State.endRowWrite_written (h : j.report.status = none) :
    s.endRowWrite p j i w .acknowledged = s.rowWritten p j i w := by
  unfold State.endRowWrite
  rw [h]

/-- Settles O45: the bytes of a row, then the write's end by the job's status and the result. -/
theorem rowWriteEnds : Obligations.RowWriteEnds := by
  constructor
  · intro row width hwidth bytes
    refine ⟨rowBytes_length _ _, fun k hk i hi => ?_⟩
    rw [rowBytes_getLsbD _ (by omega) hk hi, firstDots_getMsbD _ hwidth]
  · intro result p j w i s hlive hparams hworking hj hphase hw hi hrenders b fed freed left
    rw [exec_rowWriteEnd hlive hparams hworking hj hphase hw hi]
    have hleft {u : State} (h : s.endRowWrite p j i w result = u) :
        Host.Outcome.next (s.endRowWrite p j i w result).settle =
          (.next u.settle : Host.Outcome State Fault Refusal) := by rw [h]
    refine ⟨fun st hst => hleft ?_, fun hopen hresult => hleft ?_, fun hopen hresult hmore => hleft ?_,
      fun hopen hresult hlast => ⟨fun hdone => hleft ?_, fun hdone => hleft ?_⟩⟩
    · rw [State.endRowWrite_ended hst, State.dropImage_eq hj, ImageJob.results, hst]
      rfl
    · rw [hresult, State.endRowWrite_lost hopen]
      exact State.endImage_dropImage_eq hj hopen hrenders _ _ _
    · rw [hresult, State.endRowWrite_written hopen]
      exact if_pos hmore
    · rw [hresult, State.endRowWrite_written hopen]
      refine (if_neg (Nat.not_lt.2 hlast)).trans ((if_pos hdone).trans ?_)
      exact State.endImage_dropImage_eq (s := s.setImage (some { j with signature := fed })) rfl hopen
        hrenders _ _ _
    · rw [hresult, State.endRowWrite_written hopen]
      exact (if_neg (Nat.not_lt.2 hlast)).trans (if_neg (Nat.not_le.2 hdone))

end Writeback

end Sys2Proof.Machine

/-! SUPPORT. The end of a record fetch: a fault of the render, or the admission of the object read (O36,
O38). -/

namespace Sys2Proof.Machine

/-! ### The end of a job in its band render -/

section Jobs

variable {s : State}

theorem State.rendersJob_iff {o : Owner} :
    s.rendersJob o = true ↔ ∃ r, s.render = some r ∧ r.job = o := by
  unfold State.rendersJob
  cases s.render with
  | none => simp
  | some r => simp

/-- The render of a label in flight is to be cut; nothing of its side is emptied (R76). -/
theorem State.stopLabelRender_of_renders {l : LabelEntry}
    (h : s.rendersJob (.label l.ringIndex) = true) : s.stopLabelRender l = s.setCutPending := if_pos h

/-- The end of a job in its band render leaves both sides' contexts and tables to the cut (R76). -/
theorem State.endJob_sides {o : Owner} (h : s.rendersJob o = true) (st : Status) (fi : Half) :
    (s.endJob o st fi).walkers = s.walkers ∧ (s.endJob o st fi).tables = s.tables := by
  cases o with
  | image =>
    have hended : (s.updateImage (ImageJob.atEnd st fi)).rendersJob .image = true := h
    have hcut : s.endJob .image st fi = (s.updateImage (ImageJob.atEnd st fi)).setCutPending :=
      if_pos hended
    rw [hcut]
    exact ⟨rfl, rfl⟩
  | label i =>
    rw [State.endJob, State.endLabel]
    split
    · exact ⟨rfl, rfl⟩
    · next l hl =>
      have hi : l.ringIndex = i := by simpa using List.find?_some hl
      split
      · exact ⟨rfl, rfl⟩
      · rw [State.dropPendingPad_eq, State.stopLabelRender_of_renders (by rw [hi]; exact h)]
        exact ⟨rfl, rfl⟩

end Jobs

/-! ### The end of a record fetch -/

section Fetches

variable {s : State} {p : SetupParams} {r : RenderRecord} {a : Word}

theorem exec_recordFetchEnd (hlive : s.resetHeld = false) (hparams : s.engine.params = some p)
    (hworking : s.engine.state = .running ∨ s.engine.state = .draining) (hr : s.render = some r)
    (hread : r.read = .record a) (result : BusRead (BitVec 256)) :
    exec (.recordFetchEnd result) s = .next (s.endRecordFetch p r result).settle := by
  show execRecordFetchEnd result s = _
  rw [execRecordFetchEnd]
  refine State.act_effect hlive ?_
  simp only [hparams, hr, hread, State.working_of hworking, if_true]

/-- A fault of a label's render ends the label, and the render is to be cut (R22, R78). -/
theorem State.faultRender_label {l : LabelEntry} (hjob : r.job = .label l.ringIndex)
    (h : s.onlyLabel l) (hopen : l.printStatus ≠ .ended) (st : Status) (index : Nat) :
    (s.faultRender r st index).render = some { r with read := .none, cutPending := true } ∧
    (s.faultRender r st index).image = s.image ∧
    (s.faultRender r st index).labels = replaceLabel s.labels l { l with
      printStatus := .ended
      report := { l.report with status := some st, faultIndex := BitVec.ofNat 16 index } } ∧
    (s.faultRender r st index).bands = s.bands.freed (fun b =>
      decide (b.owner = some (.label l.ringIndex) ∧ (b.state = .ready ∨ b.state = .printing))) := by
  have hrenders : (s.setRender (some { r with read := .none })).rendersJob (.label l.ringIndex) = true :=
    State.rendersJob_iff.2 ⟨_, rfl, hjob⟩
  have hfault : s.faultRender r st index =
      (s.setRender (some { r with read := .none })).endLabel l.ringIndex st (BitVec.ofNat 16 index) :=
    congrArg (fun o => (s.setRender (some { r with read := .none })).endJob o st _) hjob
  rw [hfault, State.endLabel_of_only (by exact h) hopen,
    State.stopLabelRender_of_renders (by exact hrenders)]
  exact ⟨rfl, rfl, rfl, rfl⟩

/-- A fault of the image's render ends the job, and the render is to be cut (R22, R78). -/
theorem State.faultRender_image {j : ImageJob} (hjob : r.job = .image) (hj : s.image = some j)
    (hopen : j.report.status = none) (st : Status) (index : Nat) :
    (s.faultRender r st index).render = some { r with read := .none, cutPending := true } ∧
    (s.faultRender r st index).labels = s.labels ∧ (s.faultRender r st index).bands = s.bands ∧
    (s.faultRender r st index).image = some { j with report := { j.report with
      status := some st, faultIndex := BitVec.ofNat 16 index } } := by
  have hrenders : (s.setRender (some { r with read := .none })).rendersJob .image = true :=
    State.rendersJob_iff.2 ⟨_, rfl, hjob⟩
  have hfault : s.faultRender r st index =
      (s.setRender (some { r with read := .none })).endImage st (BitVec.ofNat 16 index) :=
    congrArg (fun o => (s.setRender (some { r with read := .none })).endJob o st _) hjob
  rw [hfault, State.endImage_eq (by exact hj) hopen, hrenders]
  exact ⟨rfl, rfl, rfl, rfl⟩

/-- A fault of a render leaves the contexts, the tables and the completion unit alone. -/
theorem State.faultRender_sides (s : State) (r : RenderRecord) (st : Status) (index : Nat) :
    (s.faultRender r st index).walkers = s.walkers ∧ (s.faultRender r st index).tables = s.tables ∧
    (s.faultRender r st index).completion = s.completion := by
  have hrenders : (s.setRender (some { r with read := .none })).rendersJob r.job = true :=
    State.rendersJob_iff.2 ⟨_, rfl, rfl⟩
  obtain ⟨hwalkers, htables⟩ := State.endJob_sides hrenders st (BitVec.ofNat 16 index)
  exact ⟨hwalkers, htables, State.completion_of_control (State.endJob_control _ _ _ _)⟩

/-- Settles O36: the data discarded, or the render faulted with the status of the fetch. -/
theorem recordFetchFaults : Obligations.RecordFetchFaults := by
  intro result p r a s hlive hparams hworking hr hread w st
  rw [exec_recordFetchEnd hlive hparams hworking hr hread]
  refine ⟨fun hcut => ?_, fun hcut hbad => ?_⟩
  · exact congrArg (fun t => Host.Outcome.next (State.settle t)) (if_pos hcut)
  · have hfault : s.endRecordFetch p r result = s.faultRender r st w.nextIndex := by
      have hopen : ¬r.cutPending = true := by simp [hcut]
      cases result with
      | busError => exact if_neg hopen
      | data d =>
        refine (if_neg hopen).trans ?_
        dsimp only
        rw [State.recordRead, hbad d rfl]
    rw [hfault]
    obtain ⟨hwalkers, htables, hcompletion⟩ := s.faultRender_sides r st w.nextIndex
    exact ⟨_, rfl, hwalkers, htables, hcompletion,
      fun l hjob honly hopen => State.faultRender_label hjob honly hopen st w.nextIndex,
      fun j hjob hj hopen => State.faultRender_image hjob hj hopen st w.nextIndex⟩

/-! ### Admission -/

/-- Considering an object is admission with the object pending (R24). -/
theorem State.considerObject_eq_startAdmission (s : State) (p : SetupParams) (r : RenderRecord)
    (o : PendingObject) :
    s.considerObject p r o = (s.setPendingObject r.side (some o)).startAdmission p r := by
  have hpending (x : Option PendingObject) :
      (s.setPendingObject r.side (some o)).setPendingObject r.side x = s.setPendingObject r.side x := by
    simp only [State.setPendingObject, State.setWalker, PerRing.get_set_self, PerRing.set_set]
  have hstart : (s.setPendingObject r.side (some o)).startAdmission p r =
      (s.setPendingObject r.side (some o)).considerObject p r o := by
    unfold State.startAdmission
    simp only [State.setPendingObject, State.setWalker, PerRing.get_set_self]
  rw [hstart]
  unfold State.considerObject
  simp only [hpending]
  rfl

/-- What a painting comes to does not look at the read it follows. -/
theorem State.paintOutcome_read (u : State) (r : RenderRecord) (x : RenderRead) (res : TableResult) :
    u.paintOutcome { r with read := x } res = u.paintOutcome r res := by
  cases res <;> rfl

/-- An object just read goes through admission as an object pending from the band before does (R24). -/
theorem State.recordRead_outcome {d : BitVec 256} {f : ObjectFields}
    (hf : readObject (s.renderStates.get r.side) d = some f) :
    AdmissionOutcome p { r with read := .none }
      { s with walkers := s.walkers.set r.side { s.walkers.get r.side with
          nextIndex := (s.walkers.get r.side).nextIndex + 1
          pending := some ⟨(s.walkers.get r.side).nextIndex, f,
            (extent (s.renderStates.get r.side) f).1, (extent (s.renderStates.get r.side) f).2⟩ } }
      (s.recordRead p r d) := by
  rw [State.recordRead, hf]
  dsimp only
  rw [State.considerObject_eq_startAdmission, State.setPendingObject]
  simp only [State.setWalker, PerRing.get_set_self, PerRing.set_set]
  exact State.startAdmission_outcome _ _ _

end Fetches

/-- Settles O38: the object read is pending as its consideration begins, and R24 to R28 say the rest. -/
theorem admission : Obligations.Admission := by
  intro d p r a f s hlive hparams hworking hr hread hcut hf
  have hexec {u : State} (h : s.recordRead p r d = u) :
      exec (.recordFetchEnd (.data d)) s = .next u.settle := by
    rw [exec_recordFetchEnd hlive hparams hworking hr hread, ← h]
    exact congrArg (fun t => Host.Outcome.next (State.settle t)) (if_neg (by simp [hcut]))
  have houtcome := State.recordRead_outcome (p := p) hf
  simp only [AdmissionOutcome, PerRing.get_set_self, PerRing.set_set, State.paintOutcome_read,
    Option.some.injEq, forall_eq'] at houtcome
  obtain ⟨-, hbelow, hlate, hentered, hfull⟩ := houtcome
  intro rs w top bottom next walked counted entry paints late entered more
  refine ⟨fun h1 h2 h3 => ⟨fun hmore => hexec ?_, fun hmore => hexec ?_⟩,
    fun h1 h2 h3 => ⟨fun hmore => hexec ?_, fun hmore => hexec ?_⟩,
    fun h1 h2 h3 => hexec ?_, fun h => hexec ?_⟩
  · exact (hlate h1 h2 h3).trans (if_pos hmore)
  · exact (hlate h1 h2 h3).trans (if_neg hmore)
  · exact (hentered ⟨h1, h2⟩ h3).trans (if_pos hmore)
  · exact (hentered ⟨h1, h2⟩ h3).trans (if_neg hmore)
  · exact hfull ⟨h1, h2⟩ h3
  · exact hbelow h

end Sys2Proof.Machine

/-! SUPPORT. The head port: STALL and the burns (O11), a row due (O47) and the end of a delivery (O48). -/

namespace Sys2Proof.Machine

/-! ### STALL and the burns -/

/-- The rows of a buffer from a cursor on, counted one by one (R116). -/
theorem length_filter_range_rowsFrom (first cursor : Nat) : ∀ count : Nat,
    ((List.range count).filter fun k => decide (cursor ≤ first + k)).length =
      first + count - max first cursor := by
  intro count
  induction count with
  | zero => simp
  | succ n ih =>
    rw [List.range_succ, List.filter_append, List.length_append, ih]
    by_cases h : cursor ≤ first + n
    · simp only [List.filter_cons, h, decide_true, if_true, List.filter_nil, List.length_singleton]
      omega
    · simp only [List.filter_cons, h, decide_false, Bool.false_eq_true, if_false, List.filter_nil,
        List.length_nil]
      omega

theorem BandBuffer.readyRows_eq (b : BandBuffer) (l : LabelEntry) : b.readyRows l =
    if b.owner = some (.label l.ringIndex) ∧ (b.state = .printing ∨ b.state = .ready) then
      ((List.range b.count).filter fun k => decide (l.cursor ≤ b.first + k)).length
    else 0 := by
  rw [length_filter_range_rowsFrom]
  rfl

/-- When STALL is asserted (R116). -/
theorem State.stallCondition_iff (s : State) : s.stallCondition = true ↔
    s.engine.state = .halted ∨ ∃ l p, headCurrent s.labels = some l ∧ s.engine.params = some p ∧
      (l.printStatus = .aligning ∨ l.printStatus = .printing) ∧ 0 < p.stallThreshold ∧
      s.bands.readyRows l < min p.stallThreshold (l.length - l.cursor) := by
  unfold State.stallCondition State.stallThreshold
  by_cases hhalted : s.engine.state = .halted
  · simp [hhalted]
  · cases headCurrent s.labels with
    | none => simp [hhalted]
    | some l => cases hparams : s.engine.params <;> simp [hhalted]

theorem HeadPort.inPhase_iff (h : HeadPort) (x : DeliveryPhase) :
    h.inPhase x = true ↔ ∃ d, h.delivery = some d ∧ d.phase = x := by
  unfold HeadPort.inPhase
  cases h.delivery <;> simp

/-- The dots of a row in the order they are sent are its bytes in order, each from bit 7 to bit 0 (R4,
R106). -/
theorem shiftSequence_getElem? (row : Row) {n k i : Nat} (hn : n ≤ 2048) (hk : k < n / 8) (hi : i < 8) :
    (shiftSequence n row)[8 * k + i]? = some (((rowBytes row (n / 8)).getD k 0#8).getLsbD (7 - i)) := by
  have hlt : 8 * k + i < n := by omega
  rw [rowBytes_getLsbD row (by omega) hk hi, shiftSequence, List.getElem?_map,
    List.getElem?_range hlt]
  rfl

/-- Settles O11: every pin stands at its level after a command, read out one by one. -/
theorem stallAndBurnPins : Obligations.StallAndBurnPins := by
  intro c s t hexec hlive hreleased
  have hshifted {p : SetupParams} (hp : t.engine.params = some p) : t.headWidth = p.headWidth := by
    rw [State.headWidth, hp]
  rw [exec_pins hexec hlive hreleased]
  refine ⟨?_, t.head.inPhase_iff .mainBurn, t.head.inPhase_iff .boostBurn, rfl, rfl, rfl,
    fun hnone => ?_, fun d p hd hp => ?_⟩
  · refine t.stallCondition_iff.trans ?_
    simp only [Bands.readyRows, BandBuffer.readyRows_eq]
  · show t.head.shifted t.headWidth = []
    rw [HeadPort.shifted, hnone]
  · show (d.phase = .mainBurn → t.head.shifted t.headWidth = shiftSequence p.headWidth d.main) ∧
      (d.phase = .boostBurn → t.head.shifted t.headWidth = shiftSequence p.headWidth d.boost) ∧
      (d.phase = .mainBurn → p.headWidth ≤ 2048 → ∀ k < p.headWidth / 8, ∀ i < 8,
        (t.head.shifted t.headWidth)[8 * k + i]? =
          some (((rowBytes d.main (p.headWidth / 8)).getD k 0#8).getLsbD (7 - i)))
    rw [hshifted hp]
    have hmain (h : d.phase = .mainBurn) :
        t.head.shifted p.headWidth = shiftSequence p.headWidth d.main := by
      simp only [HeadPort.shifted, hd, h]
    refine ⟨hmain, fun h => ?_, fun h hwidth k hk i hi => ?_⟩
    · simp only [HeadPort.shifted, hd, h]
    · rw [hmain h]
      exact shiftSequence_getElem? d.main hwidth hk hi

end Sys2Proof.Machine

/-! SUPPORT. A row due at the head port (O47), and the burns and the end of a delivery (O48). -/

namespace Sys2Proof.Machine

/-! ### A row due -/

theorem BandBuffer.holdsRow_iff (b : BandBuffer) (i : Half) (row : Nat) : b.holdsRow i row = true ↔
    b.owner = some (.label i) ∧ b.first ≤ row ∧ row < b.first + b.count := by
  simp [BandBuffer.holdsRow]

/-- A label's passed buffers freed, by a selection that looks at the buffers alone (R67, R68). -/
theorem State.freePassed_eq {s : State} {i : Half} {cursor : Nat} (passed : BandBuffer → Bool)
    (h : ∀ k, passed (s.bands.get k) = decide ((s.bands.get k).owner = some (.label i) ∧
      (s.bands.get k).first + (s.bands.get k).count ≤ cursor ∧ ((s.bands.get k).state = .ready ∨
        ((s.bands.get k).state = .printing ∧ s.head.deliversFrom k = false)))) :
    s.freePassed i cursor = { s with
      bands := s.bands.freed passed
      printQueue := s.printQueue.filter fun k => !passed (s.bands.get k) } :=
  State.freeBands_freed _ _ _ fun k => (h k).symm

section Rows

variable {s : State} {p : SetupParams} {l : LabelEntry} {i : BufferId}

theorem State.rowSource_of_printing (hi : s.bands.printingBuffer = some i)
    (h : (s.bands.get i).holdsRow l.ringIndex l.cursor = true) : s.rowSource l = .printing i := by
  rw [State.rowSource, hi]
  exact if_pos h

theorem State.rowSource_of_queueHead {rest : List BufferId} (hnone : s.bands.printingBuffer = none)
    (hi : s.printQueue = i :: rest) (h : (s.bands.get i).holdsRow l.ringIndex l.cursor = true) :
    s.rowSource l = .queueHead i := by
  rw [State.rowSource, hnone, hi]
  exact if_pos h

/-- A row that neither the PRINTING buffer nor the queue head holds is an underrun (R105). -/
theorem State.rowSource_underrun
    (h : ∀ k, s.bands.printingBuffer = some k → (s.bands.get k).holdsRow l.ringIndex l.cursor = false)
    (h' : s.bands.printingBuffer = none → ∀ k rest, s.printQueue = k :: rest →
      (s.bands.get k).holdsRow l.ringIndex l.cursor = false) : s.rowSource l = .underrun := by
  cases hprinting : s.bands.printingBuffer with
  | some k =>
    rw [State.rowSource, hprinting]
    exact if_neg (by simp [h k hprinting])
  | none =>
    cases hqueue : s.printQueue with
    | nil => rw [State.rowSource, hprinting, hqueue]
    | cons k rest =>
      rw [State.rowSource, hprinting, hqueue]
      exact if_neg (by simp [h' hprinting k rest hqueue])

/-- The boost plane, one history row after the other (R107). -/
theorem boostPlane_eq (row h1 h2 : Row) : boostPlane row h1 h2 = row &&& ~~~h1 &&& ~~~h2 := by
  rw [boostPlane, BitVec.not_or, BitVec.and_assoc]

/-- A due row taken from a buffer (R105 to R107). -/
theorem State.deliverRow_eq (h : s.onlyLabel l) : s.deliverRow p l i = { s with
    labels := replaceLabel s.labels l { l with cursor := l.cursor + 1, rowsSent := l.rowsSent + 1 }
    head := { s.head with
      delivery := some ⟨l.ringIndex, .row i, .mainBurn,
        firstDots p.headWidth
          ((s.bands.get i).rows.getD (l.cursor - (s.bands.get i).first) 0#dotsPerRow),
        firstDots p.headWidth
          ((s.bands.get i).rows.getD (l.cursor - (s.bands.get i).first) 0#dotsPerRow) &&&
            ~~~s.head.h1 &&& ~~~s.head.h2⟩ } } := by
  rw [State.deliverRow, State.updateLabel_of_only (by exact h), State.rowDelivery]
  dsimp only
  rw [boostPlane_eq]
  rfl

/-- A row given up, its label's passed buffers freed (R67, R68, R109, R110). -/
theorem State.padded_eq (h : s.onlyLabel l) (x : HeadPort) (passed : BandBuffer → Bool)
    (hpassed : ∀ k, passed (s.bands.get k) = decide ((s.bands.get k).owner = some (.label l.ringIndex) ∧
      (s.bands.get k).first + (s.bands.get k).count ≤ l.cursor + 1 ∧ ((s.bands.get k).state = .ready ∨
        ((s.bands.get k).state = .printing ∧ x.deliversFrom k = false)))) :
    ((s.setHead x).updateLabel l.ringIndex LabelEntry.rowPadded).freePassed l.ringIndex
      (l.cursor + 1) = { s with
        labels := replaceLabel s.labels l l.rowPadded
        head := x
        bands := s.bands.freed passed
        printQueue := s.printQueue.filter fun k => !passed (s.bands.get k) } := by
  rw [State.updateLabel_of_only (by exact h)]
  exact State.freePassed_eq passed hpassed

end Rows

/-- Settles O47: the row's dots, then the row by the delivery in flight and the buffer that holds it. -/
theorem dueRows : Obligations.DueRows := by
  refine ⟨fun row n x hn => firstDots_getMsbD row hn x, ?_⟩
  intro p l s hlive hparams hworking hhead honly hprinting hleft holds plane sent passed padded joined
    underrun
  have hexec : exec .rowStep s = .next (s.rowStep p l).settle :=
    exec_rowStep hlive hparams hworking hhead
  have hstep := State.rowStep_printing (s := s) (p := p) hprinting
  rw [if_neg (Nat.not_le.2 hleft)] at hstep
  have holds_iff (b : BandBuffer) : b.holdsRow l.ringIndex l.cursor = true ↔ holds b :=
    b.holdsRow_iff _ _
  have not_holds {b : BandBuffer} (h : ¬holds b) : b.holdsRow l.ringIndex l.cursor = false :=
    Bool.eq_false_iff.2 fun hb => h ((holds_iff b).1 hb)
  have hpassed (printing : Bool) (x : HeadPort) (h : ∀ k, (s.bands.get k).state = .printing →
      x.deliversFrom k = !printing) (k : BufferId) :
      passed printing (s.bands.get k) = decide ((s.bands.get k).owner = some (.label l.ringIndex) ∧
        (s.bands.get k).first + (s.bands.get k).count ≤ l.cursor + 1 ∧
        ((s.bands.get k).state = .ready ∨
          ((s.bands.get k).state = .printing ∧ x.deliversFrom k = false))) := by
    by_cases hk : (s.bands.get k).state = .printing
    · rw [h k hk]
      cases printing <;> simp [passed, hk]
    · simp [passed, hk, Bool.and_assoc]
  refine ⟨fun hfree => ?_, fun d hd => ?_⟩
  · rw [hfree] at hstep
    rw [hexec, hstep]
    refine ⟨fun i hi hrow => ?_, fun i rest hnone hi hrow => ?_, fun hrow hpad => ?_,
      fun hrow hpad => ?_⟩
    · rw [State.dueRow, State.rowSource_of_printing hi ((holds_iff _).2 hrow)]
      dsimp only
      rw [State.deliverRow_eq honly]
    · rw [State.dueRow, State.rowSource_of_queueHead hnone hi ((holds_iff _).2 hrow)]
      dsimp only
      rw [State.deliverRow_eq (by exact honly), State.headTake, State.setBand]
      simp only [State.setPrintQueue, Bands.get_set_self, hi, List.tail_cons]
      rfl
    · rw [State.dueRow, State.rowSource_underrun (fun k hk => not_holds (hrow.1 k hk))
        fun hnone k rest hk => not_holds (hrow.2 hnone k rest hk)]
      dsimp only
      rw [if_pos hpad, State.padRow, State.padded_eq honly _ (passed true) (hpassed _ _ fun k _ => rfl)]
      rfl
    · rw [State.dueRow, State.rowSource_underrun (fun k hk => not_holds (hrow.1 k hk))
        fun hnone k rest hk => not_holds (hrow.2 hnone k rest hk)]
      dsimp only
      rw [if_neg (by simp [hpad])]
      rfl
  · rw [hd] at hstep
    rw [hexec, hstep]
    dsimp only
    have hjoined : morePending l.ringIndex s.head.pendingPad = joined := by
      cases hpending : s.head.pendingPad <;> simp only [joined, hpending, morePending]
    refine ⟨fun hpad hkind => ?_, fun i hpad hkind honce => ?_, fun hpad => ?_⟩
    · rw [State.earlyStep, if_pos hpad, State.padEarly, hjoined,
        State.padded_eq honly _ (passed true) (hpassed _ _ fun k _ => ?_)]
      · rfl
      · simp [HeadPort.deliversFrom, hd, hkind]
    · rw [State.earlyStep, if_pos hpad, State.padEarly, hjoined,
        State.padded_eq honly _ (passed false) (hpassed _ _ fun k hk => ?_)]
      · rfl
      · simp [HeadPort.deliversFrom, hd, hkind, honce k hk]
    · rw [State.earlyStep, if_neg (by simp [hpad])]
      rfl

end Sys2Proof.Machine

/-! SUPPORT. The burns and the end of a delivery (O48). -/

namespace Sys2Proof.Machine

/-! ### The CRC-16 -/

/-- A byte enters the accumulator at its top eight bits. -/
theorem setWidth_shiftLeft_eight (b : Byte) : (b.setWidth 16 <<< 8 : Half) = b ++ 0#8 := by
  refine BitVec.eq_of_getLsbD_eq fun i hi => ?_
  rw [BitVec.getLsbD_append, BitVec.getLsbD_shiftLeft, BitVec.getLsbD_setWidth, BitVec.getLsbD_zero,
    decide_eq_true hi, decide_eq_true (show i - 8 < 16 by omega)]
  by_cases h : i < 8 <;> simp [h]

theorem crcFeed_append_singleton (c : Half) (bytes : List Byte) (b : Byte) :
    crcFeed c (bytes ++ [b]) = crcShifts 8 (crcFeed c bytes ^^^ (b ++ 0#8)) := by
  rw [crcFeed, List.foldl_append, List.foldl_cons, List.foldl_nil, crcByte, setWidth_shiftLeft_eight]
  rfl

/-! ### The end of a delivery -/

section Deliveries

variable {s : State} {p : SetupParams} {d : Delivery} {l : LabelEntry}

theorem exec_burnMainEnd (hlive : s.resetHeld = false) (hparams : s.engine.params = some p)
    (hworking : s.engine.state = .running ∨ s.engine.state = .draining)
    (hd : s.head.delivery = some d) (hphase : d.phase = .mainBurn) :
    exec .burnMainEnd s = .next (s.endBurnMain p d).settle := by
  show execBurnMainEnd s = _
  rw [execBurnMainEnd]
  refine State.act_effect hlive ?_
  simp only [hparams, hd, State.working_of hworking, hphase, or_true, and_self, if_true]

theorem exec_burnBoostEnd (hlive : s.resetHeld = false) (hparams : s.engine.params = some p)
    (hworking : s.engine.state = .running ∨ s.engine.state = .draining)
    (hd : s.head.delivery = some d) (hphase : d.phase = .boostBurn) :
    exec .burnBoostEnd s = .next (s.endDelivery p d).settle := by
  show execBurnBoostEnd s = _
  rw [execBurnBoostEnd]
  refine State.act_effect hlive ?_
  simp only [hparams, hd, State.working_of hworking, hphase, or_true, and_self, if_true]

theorem Delivery.boosted_iff (d : Delivery) (p : SetupParams) :
    d.boosted p = true ↔ p.burnBoost ≠ 0 ∧ d.boost ≠ 0#dotsPerRow := by
  simp [Delivery.boosted, Row.paper, Nat.pos_iff_ne_zero]

/-- The end of a delivery up to what follows it: the history moved on, the signature fed, the passed
buffers freed (R67, R108, R111, R115). -/
def State.delivered (s : State) (p : SetupParams) (d : Delivery) (l : LabelEntry) : State :=
  let passed (b : BandBuffer) : Bool := decide (b.owner = some (.label l.ringIndex) ∧
    b.first + b.count ≤ l.cursor ∧ (b.state = .ready ∨ b.state = .printing))
  { s with
    head := { s.head with
      delivery := none, h1 := (s.head.history d).1, h2 := (s.head.history d).2 }
    labels := replaceLabel s.labels l (l.feed (d.signatureBytes p.headWidth))
    bands := s.bands.freed passed
    printQueue := s.printQueue.filter fun i => !passed (s.bands.get i) }

theorem LabelEntry.feed_frame (l : LabelEntry) (bytes : List Byte) :
    ∃ sig, l.feed bytes = { l with signature := sig } := by
  unfold LabelEntry.feed
  split
  · exact ⟨_, rfl⟩
  · exact ⟨l.signature, rfl⟩

theorem State.endDelivery_eq (h : s.onlyLabel l) (hlabel : d.label = l.ringIndex) :
    s.endDelivery p d = (s.delivered p d l).afterDelivery l.ringIndex := by
  obtain ⟨sig, hfeed⟩ := l.feed_frame (d.signatureBytes p.headWidth)
  unfold State.endDelivery
  dsimp only
  rw [hlabel, State.updateLabel_of_only (by exact h)]
  refine congrArg (fun t => State.afterDelivery t l.ringIndex) ?_
  have hindex : (l.feed (d.signatureBytes p.headWidth)).ringIndex = l.ringIndex := by rw [hfeed]
  have hcursor : (l.feed (d.signatureBytes p.headWidth)).cursor = l.cursor := by rw [hfeed]
  have hfound (t : State)
      (ht : t.labels = replaceLabel s.labels l (l.feed (d.signatureBytes p.headWidth))) :
      t.findLabel l.ringIndex = some (l.feed (d.signatureBytes p.headWidth)) := by
    have := State.findLabel_of_only (State.onlyLabel_replaced h hindex ht)
    rwa [hindex] at this
  rw [State.freeDelivered, hfound _ rfl]
  dsimp only
  rw [hcursor]
  refine State.freePassed_eq _ fun k => ?_
  exact decide_eq_decide.2 (by simp [HeadPort.deliversFrom])

/-- A pending padded delivery of the same label begins at the end of a delivery (R108, R111). -/
theorem State.afterDelivery_pending {i : Half} {n : Nat} (h : s.head.pendingPad = some ⟨i, n⟩) :
    s.afterDelivery i = s.setHead { s.head with
      delivery := some (paddedDelivery i n), pendingPad := none } := by
  rw [State.afterDelivery, h]
  exact if_pos rfl

/-- With none pending of the label, it ends OK with its rows sent or padded, and else stands (R121). -/
theorem State.afterDelivery_alone {i : Half} (h : s.findLabel i = some l)
    (hpad : ∀ q, s.head.pendingPad = some q → q.label ≠ i) : s.afterDelivery i =
      if l.printStatus = .printing ∧ l.rowsSent + l.rowsPadded = l.length then
        s.endLabel i .ok noObject
      else s := by
  rw [State.afterDelivery, h]
  cases hq : s.head.pendingPad with
  | none => rfl
  | some q => exact if_neg (hpad q hq)

end Deliveries

/-- Settles O48: the CRC-16, the bytes of a row, then the burn's end and what follows the delivery. -/
theorem deliveryEnds : Obligations.DeliveryEnds := by
  refine ⟨fun sig bytes b => ⟨rfl, crcFeed_append_singleton sig bytes b⟩,
    fun row n hn => ⟨rowBytes_length row n, fun k hk i hi => rowBytes_getLsbD row hn hk hi⟩, ?_⟩
  intro p d l s hlive hparams hworking hd hlabel honly boosted bytes fed after passed ended ends
  have hdelivered : s.delivered p d l = ended after := by
    cases hkind : d.kind <;>
      simp only [State.delivered, HeadPort.history, Delivery.signatureBytes, hkind, ended, after, fed,
        bytes, passed] <;>
      rfl
  obtain ⟨sig, hfeed⟩ := l.feed_frame (d.signatureBytes p.headWidth)
  have hindex : (l.feed (d.signatureBytes p.headWidth)).ringIndex = l.ringIndex := by rw [hfeed]
  have hfound : (ended after).findLabel l.ringIndex = some (l.feed (d.signatureBytes p.headWidth)) := by
    have := State.findLabel_of_only (State.onlyLabel_replaced (t := s.delivered p d l) honly hindex rfl)
    rwa [hindex, hdelivered] at this
  have hends {c : Instr} (hc : exec c s = .next (s.endDelivery p d).settle) : ends c := by
    have hafter : exec c s = .next ((ended after).afterDelivery l.ringIndex).settle := by
      rw [hc, State.endDelivery_eq honly hlabel, hdelivered]
    refine ⟨fun n hpad => ?_, fun hpad => ⟨fun hopen => ?_, fun hprinting hall => ?_⟩⟩
    · rw [hafter, State.afterDelivery_pending (s := ended after) hpad]
      rfl
    · rw [hafter, State.afterDelivery_alone hfound hpad, hfeed, if_neg]
      rintro ⟨hprinting, hall⟩
      exact hopen.elim (· hprinting) (· hall)
    · rw [hafter, State.afterDelivery_alone hfound hpad, hfeed, if_pos ⟨hprinting, hall⟩]
      rfl
  refine ⟨fun hphase hboosted => ?_, fun hphase hplain => hends ?_, fun hphase => hends ?_⟩
  · rw [exec_burnMainEnd hlive hparams hworking hd hphase, State.endBurnMain,
      if_pos ((d.boosted_iff p).2 hboosted)]
    rfl
  · rw [exec_burnMainEnd hlive hparams hworking hd hphase, State.endBurnMain,
      if_neg (mt (d.boosted_iff p).1 hplain)]
  · exact exec_burnBoostEnd hlive hparams hworking hd hphase

end Sys2Proof.Machine

/-! SUPPORT. Painting a table on the dots of a band, and the ends of the reads it waits for (O39, O40). -/

namespace Sys2Proof.Machine

/-! ### Dots -/

section Dots

variable (env : PaintEnv) (op : CombineOp) (marks : Marks)

theorem PaintEnv.inClip_iff (x y : Int) : env.inClip x y = true ↔
    env.rs.clipLeft ≤ x ∧ x < env.rs.clipRight ∧ env.rs.clipTop ≤ y ∧ y < env.rs.clipBottom ∧
      0 ≤ x ∧ x < env.columns ∧ 0 ≤ y ∧ y < env.gridRows := by simp [PaintEnv.inClip]

/-- One dot of a painted row: the op under its mark where it is covered and in the effective clip (R5, R7,
R8). -/
theorem PaintEnv.rowDot_paintRow (hcolumns : env.columns ≤ dotsPerRow) (y : Int) (old : Row) {x : Nat}
    (hx : x < dotsPerRow) : rowDot (env.paintRow op marks y old) x =
      if env.inClip x y = true ∧ (marks x y).isSome = true then
        opDot op (marks x y == some true) (rowDot old x)
      else rowDot old x := by
  have hlt (h : env.inClip x y = true) : x < env.columns := by
    obtain ⟨-, -, -, -, -, hlt, -⟩ := (env.inClip_iff x y).1 h
    exact_mod_cast hlt
  rw [PaintEnv.paintRow, rowDot_combineRow op _ _ _ hx]
  · simp only [rowDot_rowOf hcolumns]
    by_cases hclip : env.inClip x y = true
    · simp [hclip, hlt hclip]
    · simp [hclip]
  · simp only [rowDot_rowOf hcolumns]
    intro h
    cases hmark : marks x y <;> simp_all

/-- What an op does to a dot under each mark (Table 1-3). -/
theorem opDot_true (op : CombineOp) (old : Bool) : opDot op true old = match op with
    | .set | .replace => true
    | .clear => false
    | .invert => !old := by cases op <;> rfl

theorem opDot_false (op : CombineOp) (old : Bool) : opDot op false old = match op with
    | .replace => false
    | .set | .clear | .invert => old := by cases op <;> rfl

end Dots

/-! ### Entries -/

section Entries

variable (env : PaintEnv) (e : TableEntry) (c : Canvas)

/-- Rows of a BITMAP already read are painted from the kept bytes (R49). -/
theorem PaintEnv.bitmapRows_kept (b : BitmapFields) (next : Nat) (kept : List Byte) (after : List Nat) :
    ∀ (old : List Nat) (c : Canvas), (∀ q ∈ old, q < next) →
      env.bitmapRows e b next kept (old ++ after) c = env.bitmapRows e b next kept after { c with
        rows := old.foldl (fun rows q => env.paint e.op (env.bitmapMarks e.fields b q kept) rows)
          c.rows } := by
  intro old
  induction old with
  | nil => intro c _; rfl
  | cons q rest ih =>
    intro c h
    rw [List.cons_append, PaintEnv.bitmapRows, if_pos (h q (by simp)),
      ih _ fun x hx => h x (by simp [hx])]
    rfl

/-- A BITMAP waits for a row that is neither read nor short (R46, R49). -/
theorem PaintEnv.bitmapRows_waits {b : BitmapFields} {next q : Nat} (kept : List Byte) (rest : List Nat)
    (hq : next ≤ q) (hlong : ¬b.length < q * b.stride + (b.width + 7) / 8) :
    env.bitmapRows e b next kept (q :: rest) c = .waits { e with progress := .bitmap next kept } c
      (b.address + BitVec.ofNat 32 (q * b.stride)) ((b.width + 7) / 8) (.bitmapRow q rest) := by
  have hshort : b.short q = false := decide_eq_false hlong
  rw [PaintEnv.bitmapRows, if_neg (by omega), hshort]
  rfl

theorem BitmapFields.short_of_lt {b : BitmapFields} {q : Nat}
    (h : b.length < q * b.stride + (b.width + 7) / 8) : b.short q = true := decide_eq_true h

/-- Missing codes place nothing and set GLYPH_MISSING (R51, R53). -/
theorem PaintEnv.placeCodes_missing (ascent descent : Nat) (rest : List Half) (placed : List GlyphItem)
    (pen : Int) : ∀ (missing : List Half) (c : Canvas), (∀ m ∈ missing, env.rs.glyphCount ≤ m.toNat) →
      env.placeCodes e ascent descent (missing ++ rest) placed pen c =
        env.placeCodes e ascent descent rest placed pen
          { c with glyphMissing := c.glyphMissing || !missing.isEmpty } := by
  intro missing
  induction missing with
  | nil => intro c _; simp
  | cons m missing ih =>
    intro c h
    rw [List.cons_append, PaintEnv.placeCodes, if_neg (Nat.not_lt.2 (h m (by simp))),
      ih _ fun x hx => h x (by simp [hx])]
    simp

end Entries

/-! ### The PAINT step -/

section Bitmaps

variable (env : PaintEnv) (e : TableEntry) (c : Canvas)

/-- The rows a BITMAP paints before it is done or waits: the rows kept from the band before, then the
short rows as paper (R48, R49). -/
theorem PaintEnv.bitmapRows_front {b : BitmapFields} {next : Nat} {kept : List Byte}
    {old shorts : List Nat} (after : List Nat) (hold : ∀ q ∈ old, q < next)
    (hshort : ∀ q ∈ shorts, next ≤ q ∧ b.length < q * b.stride + (b.width + 7) / 8) :
    env.bitmapRows e b next kept (old ++ shorts ++ after) c =
      env.bitmapRows e b next kept after { c with
        rows := shorts.foldl (fun rows q => env.paint e.op (env.bitmapMarks e.fields b q []) rows)
          (old.foldl (fun rows q => env.paint e.op (env.bitmapMarks e.fields b q kept) rows) c.rows)
        shortSource := c.shortSource || !shorts.isEmpty } := by
  rw [List.append_assoc, env.bitmapRows_kept e b next kept _ old c hold,
    env.bitmapRows_short e b next kept after shorts _
      fun q hq => ⟨(hshort q hq).1, BitmapFields.short_of_lt (hshort q hq).2⟩]

/-- Where a BITMAP goes on in a band: from the row after the one kept, or from its first needed row. -/
theorem next_of_neededRows {next q : Nat} {old shorts rest : List Nat}
    (hold : old = [] ∨ ∃ k, old = [k] ∧ k + 1 = next) (hpairwise : shorts.Pairwise (· < ·))
    (hshorts : ∀ x ∈ shorts, next ≤ x) :
    (∀ x ∈ old, x < max next ((old ++ shorts).headD next)) ∧
    (∀ x ∈ shorts, max next ((old ++ shorts).headD next) ≤ x) ∧
    (next ≤ q → (∀ x ∈ shorts, x < q) →
      (∀ x ∈ old, x < max next ((old ++ shorts ++ q :: rest).headD next)) ∧
      (∀ x ∈ shorts, max next ((old ++ shorts ++ q :: rest).headD next) ≤ x) ∧
      max next ((old ++ shorts ++ q :: rest).headD next) ≤ q) := by
  obtain rfl | ⟨k, rfl, hk⟩ := hold
  · cases shorts with
    | nil => simp
    | cons x shorts =>
      have hx := hshorts x (by simp)
      have hrest : ∀ y ∈ shorts, x < y := fun y hy => List.rel_of_pairwise_cons hpairwise hy
      simp only [List.nil_append, List.cons_append, List.headD_cons, max_eq_right hx, List.mem_cons,
        List.not_mem_nil, false_implies, implies_true, true_and, forall_eq_or_imp, le_refl]
      exact ⟨fun y hy => (hrest y hy).le, fun _ h => ⟨fun y hy => (hrest y hy).le, h.1.le⟩⟩
  · have hmax : max next k = next := max_eq_left (by omega)
    simp only [List.cons_append, List.nil_append, List.headD_cons, hmax, List.mem_singleton,
      forall_eq]
    exact ⟨by omega, hshorts, fun hq _ => ⟨by omega, hshorts, hq⟩⟩

end Bitmaps

theorem State.gridOf_label {s : State} (p : SetupParams) {l : LabelEntry} (h : s.onlyLabel l) :
    s.gridOf p (.label l.ringIndex) = (p.headWidth, l.length) := by
  unfold State.gridOf
  dsimp only
  rw [State.findLabel_of_only h]

theorem State.gridOf_image {s : State} (p : SetupParams) {j : ImageJob} (h : s.image = some j) :
    s.gridOf p .image = (j.width, j.height) := by
  unfold State.gridOf
  dsimp only
  rw [h]

/-- Settles O40: the dots of a painted row, the job's grid, and the table entry by entry. -/
theorem paintedDots : Obligations.PaintedDots := by
  refine ⟨?_, fun p r s => ⟨fun l hjob honly => ?_, fun j hjob hj => ?_⟩, fun env c => ⟨rfl,
    fun before rest => ?_, fun e => ⟨fun w h hbody => ?_, fun x1 y1 w hbody => ?_,
    fun address count m h hbody => ⟨fun hprogress => ?_, fun bars hprogress => ?_⟩,
    fun address count ascent descent hbody => ⟨fun hprogress => ?_, fun placed hprogress =>
      ⟨fun hnone => ?_, fun g rest hrows => ?_⟩⟩, ?_⟩⟩⟩
  · intro env op marks rows j old hcolumns hold y allowed
    refine ⟨List.length_mapIdx, if env.first + j ≤ env.last then
      env.paintRow op marks ((env.first + j : Nat) : Int) old else old, ?_, fun x hx => ?_⟩
    · rw [PaintEnv.paint, List.getElem?_mapIdx, hold]
      rfl
    · have hallowed : allowed x ↔ env.first + j ≤ env.last ∧
          env.inClip x ((env.first + j : Nat) : Int) = true := by
        rw [PaintEnv.inClip_iff]
        omega
      rw [hallowed]
      by_cases hband : env.first + j ≤ env.last
      · rw [if_pos hband, env.rowDot_paintRow op marks hcolumns _ _ hx]
        refine ⟨fun ⟨_, hclip⟩ hmark => ?_, fun ⟨_, hclip⟩ hmark => ?_, fun h => if_neg ?_⟩
        · rw [if_pos ⟨hclip, by rw [hmark]; rfl⟩, hmark]
          exact opDot_true op _
        · rw [if_pos ⟨hclip, by rw [hmark]; rfl⟩, hmark]
          exact opDot_false op _
        · rintro ⟨hclip, hmark⟩
          obtain h | h := h
          · exact h ⟨hband, hclip⟩
          · rw [h] at hmark
            cases hmark
      · rw [if_neg hband]
        exact ⟨fun h => absurd h.1 hband, fun h => absurd h.1 hband, fun _ => rfl⟩
  · rw [State.paintEnv, hjob, State.gridOf_label p honly]
  · rw [State.paintEnv, hjob, State.gridOf_image p hj]
  · exact env.paintTable_append rest before c
  · rw [PaintEnv.paintTable_single]
    simp only [PaintEnv.beginEntry, hbody]
    rfl
  · rw [PaintEnv.paintTable_single]
    simp only [PaintEnv.beginEntry, hbody]
    rfl
  · rw [PaintEnv.paintTable_single]
    simp only [PaintEnv.beginEntry, hbody, hprogress]
    rfl
  · rw [PaintEnv.paintTable_single]
    simp only [PaintEnv.beginEntry, hbody, hprogress]
    rfl
  · rw [PaintEnv.paintTable_single]
    simp only [PaintEnv.beginEntry, hbody, hprogress]
    rfl
  · rw [PaintEnv.paintTable_single]
    simp only [PaintEnv.beginEntry, hbody, hprogress, hnone]
    rfl
  · rw [PaintEnv.paintTable_single]
    simp only [PaintEnv.beginEntry, hbody, hprogress, hrows]
    rfl
  · intro width height stride sx sy address length next kept old shorts hbody hprogress b short on
      hold hpairwise hshorts
    have hbegin : env.paintTable [e] c = (env.bitmapRows e b
        (max next ((env.neededRows e.fields b).headD next)) kept (env.neededRows e.fields b) c).alone := by
      rw [PaintEnv.paintTable_single]
      simp only [PaintEnv.beginEntry, hbody, hprogress]
      rfl
    refine ⟨fun hneeded => ?_, fun q rest hneeded hq hlt hlong => ?_⟩
    · obtain ⟨hkept, hfrom, -⟩ := next_of_neededRows (q := next) (rest := []) hold hpairwise
        fun x hx => (hshorts x hx).1
      have hfront := env.bitmapRows_front e c (b := b) (kept := kept) [] hkept
        fun x hx => ⟨hfrom x hx, (hshorts x hx).2⟩
      rw [List.append_nil] at hfront
      refine ⟨max next ((old ++ shorts).headD next), ?_⟩
      rw [hbegin, hneeded, hfront]
      rfl
    · obtain ⟨-, -, hwaits⟩ := next_of_neededRows (q := q) (rest := rest) hold hpairwise
        fun x hx => (hshorts x hx).1
      obtain ⟨hkept, hfrom, hle⟩ := hwaits hq hlt
      refine ⟨_, hle, ?_⟩
      rw [hbegin, hneeded, env.bitmapRows_front e c (q :: rest) hkept
        fun x hx => ⟨hfrom x hx, (hshorts x hx).2⟩, env.bitmapRows_waits e _ kept rest hle hlong]
      rfl

end Sys2Proof.Machine

/-! SUPPORT. The end of a read of object data (O39). -/

namespace Sys2Proof.Machine

/-! ### The end of the read on the machine -/

section Reads

variable {s : State} {p : SetupParams} {r : RenderRecord} {a : Word} {n : Nat} {work : PaintWork}

/-- The end of a read of object data: data of another length are no end of it (log 6). -/
theorem exec_objectDataReadEnd (hlive : s.resetHeld = false) (hparams : s.engine.params = some p)
    (hworking : s.engine.state = .running ∨ s.engine.state = .draining) (hr : s.render = some r)
    (hread : r.read = .object a n work) (result : BusRead (List Byte)) :
    exec (.objectDataReadEnd result) s =
      .next (if answersRead n result then s.endObjectRead p r work result else s).settle := by
  show execObjectDataReadEnd result s = _
  rw [execObjectDataReadEnd]
  refine State.act_effect hlive ?_
  simp only [hparams, hr, hread, State.working_of hworking, true_and]

/-- The data of a read paint the table on from the entry that waited (R37, R38). -/
theorem State.endObjectRead_data (hcut : r.cutPending = false) (bytes : List Byte) :
    s.endObjectRead p r work (.data bytes) = s.paintOutcome r
      ((s.paintEnv p r).resumeTable (s.tables.get r.side) r.entry work bytes
        ⟨(s.bands.get r.buffer).rows, false, false⟩) := by
  rw [← State.applyPainting_eq]
  exact if_neg (by simp [hcut])

/-- A change of no report changes nothing. -/
theorem State.updateReport_id (s : State) (o : Owner) : (s.updateReport o fun x => x) = s := by
  cases o with
  | label i =>
    have hid : (updateEntry i fun l => { l with report := l.report }) = id := by
      funext l
      exact ite_self l
    show s.setLabels (s.labels.map (updateEntry i fun l => { l with report := l.report })) = s
    rw [hid, List.map_id]
    rfl
  | image =>
    show s.setImage (s.image.map fun j => j) = s
    rw [Option.map_id']
    rfl

/-- A canvas with no warning changes no report. -/
theorem State.updateReport_gain_none (s : State) (o : Owner) (rows : List Row) :
    s.updateReport o (JobReport.gain ⟨rows, false, false⟩) = s := by
  have hgain : JobReport.gain ⟨rows, false, false⟩ = fun x => x := by
    funext x
    simp [JobReport.gain]
  rw [hgain, State.updateReport_id]

end Reads

theorem runsValid_iff (runs : List Byte) :
    runsValid runs = true ↔ ∀ b ∈ runs, 1 ≤ b.toNat ∧ b.toNat ≤ 15 := by simp [runsValid]

/-- The runs of a BARS laid out and painted, or met out of 1..15 (R57). -/
theorem PaintEnv.resumeTable_bars (env : PaintEnv) (e : TableEntry) (c : Canvas) (bytes : List Byte)
    {address : Word} {count m h : Nat} (hbody : e.fields.body = .bars address count m h) :
    env.resumeTable [e] 0 .barRuns bytes c =
      if ∀ b ∈ bytes, 1 ≤ b.toNat ∧ b.toNat ≤ 15 then
        .painted [{ e with
            progress := .bars (some (layoutBars m (e.fields.x + env.rs.originX) true bytes)) }]
          (c.paint env e.op
            (env.barsMarks e.fields h (layoutBars m (e.fields.x + env.rs.originX) true bytes)))
      else .objectFault [e] 0 c := by
  rw [PaintEnv.resumeTable_single]
  simp only [PaintEnv.resumeEntry, hbody]
  by_cases h : ∀ b ∈ bytes, 1 ≤ b.toNat ∧ b.toNat ≤ 15
  · rw [if_pos h, if_pos ((runsValid_iff bytes).2 h)]
    rfl
  · rw [if_neg h, if_neg (mt (runsValid_iff bytes).1 h)]
    rfl

/-! ### What the data of a TEXT give -/

section Texts

variable (env : PaintEnv) (e : TableEntry) (c : Canvas)

theorem dataWord_eq (bytes : List Byte) : dataWord bytes 4 =
    bytes.getD 7 0#8 ++ bytes.getD 6 0#8 ++ bytes.getD 5 0#8 ++ bytes.getD 4 0#8 := by
  show (bytes.getD 7 0#8 ++ bytes.getD 6 0#8 ++ (bytes.getD 5 0#8 ++ bytes.getD 4 0#8) :
    BitVec (8 + 8 + (8 + 8))) = _
  exact BitVec.append_assoc' (x₁ := bytes.getD 7 0#8 ++ bytes.getD 6 0#8)

/-- Where the placing of codes stops: at the first code present, or with the band's glyph rows (R51,
R53). -/
theorem PaintEnv.placeCodes_present (ascent descent : Nat) {missing rest : List Half} {code : Half}
    (placed : List GlyphItem) (pen : Int) (hmissing : ∀ m ∈ missing, env.rs.glyphCount ≤ m.toNat)
    (hcode : code.toNat < env.rs.glyphCount) :
    env.placeCodes e ascent descent (missing ++ code :: rest) placed pen c =
      .waits e { c with glyphMissing := c.glyphMissing || !missing.isEmpty }
        (env.rs.glyphTable + BitVec.ofNat 32 (8 * code.toNat)) 8
        (.textGlyph code rest placed pen) := by
  rw [env.placeCodes_missing e ascent descent _ placed pen missing c hmissing, PaintEnv.placeCodes,
    if_pos hcode]

theorem PaintEnv.placeCodes_absent {address : Word} {count ascent descent : Nat}
    (hbody : e.fields.body = .text address count ascent descent) {codes : List Half}
    (placed : List GlyphItem) (pen : Int) (hmissing : ∀ m ∈ codes, env.rs.glyphCount ≤ m.toNat) :
    (env.placeCodes e ascent descent codes placed pen c).alone =
      env.paintTable [{ e with progress := .text (some placed) }]
        { c with glyphMissing := c.glyphMissing || !codes.isEmpty } := by
  have h := env.placeCodes_missing e ascent descent [] placed pen codes c hmissing
  rw [List.append_nil] at h
  rw [h, PaintEnv.paintTable_single]
  simp only [PaintEnv.beginEntry, hbody, PaintEnv.placeCodes]

end Texts

/-- The rows of a buffer put back as they are. -/
theorem Bands.set_rows_get (b : Bands) (i : BufferId) :
    b.set i { b.get i with rows := (b.get i).rows } = b := b.set_get i

/-- A painted table without warnings changes the table, the buffer and the render alone. -/
theorem State.paintOutcome_quiet (s : State) (r : RenderRecord) (table : List TableEntry)
    (rows : List Row) : s.paintOutcome r (.painted table ⟨rows, false, false⟩) = { s with
      tables := s.tables.set r.side table
      bands := s.bands.set r.buffer { s.bands.get r.buffer with rows := rows }
      render := some { r with step := .retire, entry := table.length, read := .none } } := by
  show ({ s.updateReport r.job (JobReport.gain ⟨rows, false, false⟩) with
    tables := s.tables.set r.side table
    bands := s.bands.set r.buffer { s.bands.get r.buffer with rows := rows }
    render := some { r with step := .retire, entry := table.length, read := .none } } : State) = _
  rw [State.updateReport_gain_none]

/-- A fault of the one entry met before anything is painted ends the job and changes nothing else (R57). -/
theorem State.paintOutcome_fault {s : State} {r : RenderRecord} {e : TableEntry}
    (htable : s.tables.get r.side = [e]) :
    s.paintOutcome r (.objectFault [e] 0 ⟨(s.bands.get r.buffer).rows, false, false⟩) =
      ({ s with render := some { r with step := .paint, entry := 0, read := .none } } :
        State).endJob r.job .objectFault (BitVec.ofNat 16 e.index) := by
  show ({ s.updateReport r.job (JobReport.gain ⟨(s.bands.get r.buffer).rows, false, false⟩) with
    tables := s.tables.set r.side [e]
    bands := s.bands.set r.buffer { s.bands.get r.buffer with rows := (s.bands.get r.buffer).rows }
    render := some { r with step := .paint, entry := 0, read := .none } } : State).endJob r.job
      .objectFault (BitVec.ofNat 16 e.index) = _
  rw [State.updateReport_gain_none, Bands.set_rows_get, ← htable, PerRing.set_get]

/-- Settles O39: the read's end on the machine, then what its data give kind by kind. -/
theorem objectDataReads : Obligations.ObjectDataReads := by
  refine ⟨fun result p r a n work s hlive hparams hworking hr hread => ?_, fun env e c bytes =>
    ⟨fun before rest work => ?_, ?_, ?_, ?_⟩⟩
  · have hexec := exec_objectDataReadEnd hlive hparams hworking hr hread result
    have hends {u : State} (hlength : answersRead n result = true)
        (h : s.endObjectRead p r work result = u) :
        exec (.objectDataReadEnd result) s = .next u.settle := by
      rw [hexec, if_pos hlength, h]
    have hdata {bytes : List Byte} (hresult : result = .data bytes) (hlength : bytes.length = n)
        (hcut : r.cutPending = false) : exec (.objectDataReadEnd result) s = .next (s.paintOutcome r
          ((s.paintEnv p r).resumeTable (s.tables.get r.side) r.entry work bytes
            ⟨(s.bands.get r.buffer).rows, false, false⟩)).settle :=
      hends (by rw [hresult]; exact decide_eq_true hlength)
        (by rw [hresult]; exact State.endObjectRead_data hcut bytes)
    refine ⟨fun bytes hresult hlength => ?_, fun hlength hcut => hends ?_ (if_pos hcut),
      fun e he hcut hresult => hends ?_ ?_, fun bytes hresult hlength hcut => hdata hresult hlength hcut,
      ?_⟩
    · rw [hexec, hresult, answersRead, if_neg (by simp [hlength])]
    · cases result with
      | busError => rfl
      | data bytes => exact decide_eq_true (hlength bytes rfl)
    · rw [hresult]
      rfl
    · rw [hresult]
      refine (if_neg (by simp [hcut])).trans ?_
      show s.faultRender r .fetchError (entryIndex (s.tables.get r.side) r.entry) = _
      rw [entryIndex, he]
      rfl
    · intro e address count m h bytes htable hentry hcut hbody hwork hresult hlength env bars
      have hbars := hdata hresult hlength hcut
      rw [htable, hentry, hwork, PaintEnv.resumeTable_bars _ e _ bytes hbody] at hbars
      refine ⟨fun ⟨b, hb, hbad⟩ => ?_, fun hgood => ?_⟩
      · rw [if_neg fun hall => by have := hall b hb; omega] at hbars
        refine hbars.trans (congrArg (fun t => Host.Outcome.next (State.settle t)) ?_)
        exact State.paintOutcome_fault htable
      · rw [if_pos hgood] at hbars
        exact hbars.trans (congrArg (fun t => Host.Outcome.next (State.settle t))
          (State.paintOutcome_quiet s r _ _))
  · exact env.resumeTable_append e c bytes rest work before
  · intro width height stride sx sy length row address hbody b short e' on
    have hresume (rows : List Nat) : env.resumeTable [e] 0 (.bitmapRow row rows) bytes c =
        (env.bitmapRows e b (row + 1) bytes rows
          (c.paint env e.op (env.bitmapMarks e.fields b row bytes))).alone := by
      rw [PaintEnv.resumeTable_single]
      simp only [PaintEnv.resumeEntry, hbody]
      rfl
    have hfront (shorts after : List Nat) (hshorts : ∀ q ∈ shorts, row < q ∧ short q) :
        env.bitmapRows e b (row + 1) bytes (shorts ++ after)
          (c.paint env e.op (env.bitmapMarks e.fields b row bytes)) =
        env.bitmapRows e b (row + 1) bytes after (on shorts) :=
      env.bitmapRows_short e b (row + 1) bytes after shorts _
        fun q hq => ⟨(hshorts q hq).1, BitmapFields.short_of_lt (hshorts q hq).2⟩
    refine ⟨fun shorts hshorts => ?_, fun shorts q rest hshorts hq hlong => ?_⟩
    · have h := hfront shorts [] hshorts
      rw [List.append_nil] at h
      rw [hresume, h]
      rfl
    · rw [hresume, hfront shorts _ hshorts, env.bitmapRows_waits e _ bytes rest hq hlong]
      rfl
  · intro address count ascent descent hbody placing u8
    have hplaces {result : TableResult} {codes : List Half} {placed : List GlyphItem} {pen : Int}
        (h : result = (env.placeCodes e ascent descent codes placed pen c).alone) :
        placing result codes placed pen := by
      refine ⟨fun missing code rest hcodes hmissing hcode => ?_, fun hmissing => ?_⟩
      · rw [h, hcodes, env.placeCodes_present e c ascent descent placed pen hmissing hcode]
        rfl
      · rw [h, env.placeCodes_absent e c hbody placed pen hmissing]
    have hword := dataWord_eq bytes
    refine ⟨hplaces ?_, fun code rest placed pen => hplaces ?_, fun g gathered => ?_,
      fun g q rest gathered => ?_⟩ <;> rw [PaintEnv.resumeTable_single]
    · simp only [PaintEnv.resumeEntry, hbody]
      rfl
    · simp only [PaintEnv.resumeEntry, hbody, readGlyph, hword]
      rfl
    · simp only [PaintEnv.resumeEntry, hbody]
      rfl
    · simp only [PaintEnv.resumeEntry, hbody]
      rfl
  · intro address count m h hbody bars
    exact env.resumeTable_bars e c bytes hbody

end Sys2Proof.Machine

/-! SUPPORT. The arbiter's grant (O35): what the commands that end a job do to the band render in flight,
whether one that waits ends the job of the render being granted, and who is granted. -/

namespace Sys2Proof.Machine

/-! ### The band render under the end of a label -/

/-- A band render marked to be cut (R76). -/
def RenderRecord.toCut (r : RenderRecord) : RenderRecord := { r with cutPending := true }

/-- The band render of `s` stands in `t`, to be cut there only when it is a label's. -/
def State.renderStands (s t : State) : Prop :=
  t.render = s.render ∨
    ((∃ k, s.rendersJob (.label k) = true) ∧ t.render = s.render.map RenderRecord.toCut)

theorem State.renderStands.trans {s t u : State} (h : s.renderStands t) (h' : t.renderStands u) :
    s.renderStands u := by
  have hjob (h : t.render = s.render.map RenderRecord.toCut) (o : Owner) :
      t.rendersJob o = s.rendersJob o :=
    State.rendersJob_of_render (by rw [h, Option.map_map]; rfl) o
  obtain h | ⟨hk, h⟩ := h
  · obtain h' | ⟨⟨k, hk⟩, h'⟩ := h'
    · exact .inl (h'.trans h)
    · exact .inr ⟨⟨k, by rwa [State.rendersJob, ← h]⟩, h ▸ h'⟩
  · refine .inr ⟨hk, ?_⟩
    obtain h' | ⟨-, h'⟩ := h'
    · exact h'.trans h
    · rw [h', h, Option.map_map]
      rfl

section Stands

variable {s u : State}

theorem State.endLabel_renderStands (h : u.render = s.render) (i : Half) (st : Status) (fi : Half) :
    s.renderStands (u.endLabel i st fi) :=
  State.renderStands.trans (.inl h) (u.endLabel_render i st fi)

theorem State.rowStep_renderStands (s : State) (p : SetupParams) (l : LabelEntry) :
    s.renderStands (s.rowStep p l) := by
  have hdue : s.renderStands (s.dueRow p l) := by
    unfold State.dueRow
    split
    · exact .inl rfl
    · exact .inl rfl
    · split
      · exact .inl rfl
      · exact State.endLabel_renderStands rfl _ _ _
  have hearly : s.renderStands (s.earlyStep l) := by
    unfold State.earlyStep
    split
    · exact .inl rfl
    · exact State.endLabel_renderStands rfl _ _ _
  have hcount : s.renderStands (s.countStep l) := by
    unfold State.countStep
    dsimp only
    split
    · exact State.endLabel_renderStands rfl _ _ _
    · exact .inl rfl
  unfold State.rowStep
  split
  · exact .inl rfl
  · exact .inl rfl
  · exact hcount
  · split
    · exact .inl rfl
    · split
      · exact hdue
      · exact hearly

theorem State.endDelivery_renderStands (s : State) (p : SetupParams) (d : Delivery) :
    s.renderStands (s.endDelivery p d) := by
  have hafter {t : State} (ht : t.render = s.render) (i : Half) :
      s.renderStands (t.afterDelivery i) := by
    obtain ⟨q, -, -, h⟩ | ⟨-, ⟨l, -, -, -, h⟩ | ⟨-, h⟩⟩ := t.afterDelivery_cases i <;> rw [h]
    · exact .inl ht
    · exact State.endLabel_renderStands ht _ _ _
    · exact .inl ht
  have hfreed (t : State) (i : Half) : (t.freeDelivered i).render = t.render := by
    unfold State.freeDelivered
    split <;> rfl
  unfold State.endDelivery
  refine hafter ?_ _
  exact (hfreed _ _).trans rfl

theorem State.endBurnMain_renderStands (s : State) (p : SetupParams) (d : Delivery) :
    s.renderStands (s.endBurnMain p d) := by
  unfold State.endBurnMain
  split
  · exact .inl rfl
  · exact s.endDelivery_renderStands p d

theorem State.abortLabels_renderStands (s : State) : s.renderStands s.abortLabels := by
  have hfold : ∀ (ls : List LabelEntry) (t : State), s.renderStands t →
      s.renderStands (ls.foldl (fun t l => t.endLabel l.ringIndex .aborted noObject) t) := by
    intro ls
    induction ls with
    | nil => exact fun t ht => ht
    | cons l ls ih => exact fun t ht => ih _ (ht.trans (t.endLabel_render _ _ _))
  exact hfold s.labels s (.inl rfl)

/-- The end of the job's ring's abort leaves the band render to what its jobs made of it. -/
theorem State.abortTail_render (s : State) (r : Ring) :
    ((s.abortStateLoad r).beginFlush r).render = s.render := by
  obtain ⟨x, q, h, -⟩ := s.abortTail_frame r
  rw [h]

/-- ABORT_IMAGE leaves a band render that is not the image's alone. -/
theorem State.abortImageJob_render_other (h : s.rendersJob .image = false) :
    s.abortImageJob.render = s.render := by
  cases hj : s.image with
  | none => rw [State.abortImageJob, hj]
  | some j =>
    cases hstatus : j.report.status with
    | some st => rw [State.abortImageJob_of_ended hj (by simp [hstatus])]
    | none =>
      rw [(State.abortImageJob_render hj hstatus).1, State.endImage_eq hj hstatus, h]
      rfl

end Stands

/-! ### The commands that end a job -/

section Commands

variable {s : State}

/-- The commands at which a label can end. -/
def labelEnders : List Instr := [.abortPrint, .rowStep, .burnMainEnd, .burnBoostEnd]

/-- A command at which a label can end leaves the band render standing, to be cut only for a label. -/
theorem exec_labelEnder (hlive : s.resetHeld = false) {c : Instr} (hc : c ∈ labelEnders) :
    ∃ v, exec c s = .next v ∧ s.renderStands v := by
  have answers {f : State → State} (hf : s.renderStands (f s)) :
      ∃ v, s.act f = .next v ∧ s.renderStands v := ⟨_, State.act_live f hlive, hf⟩
  simp only [labelEnders, List.mem_cons, List.not_mem_nil, or_false] at hc
  obtain rfl | rfl | rfl | rfl := hc
  · refine answers (f := fun s => if s.working then _ else _) ?_
    split
    · exact s.abortLabels_renderStands.trans (.inl (State.abortTail_render _ _))
    · exact .inl rfl
  · show ∃ v, execRowStep s = .next v ∧ s.renderStands v
    rw [execRowStep]
    refine answers ?_
    split
    · split
      · exact s.rowStep_renderStands _ _
      · exact .inl rfl
    · exact .inl rfl
  · show ∃ v, execBurnMainEnd s = .next v ∧ s.renderStands v
    rw [execBurnMainEnd]
    refine answers ?_
    split
    · split
      · exact s.endBurnMain_renderStands _ _
      · exact .inl rfl
    · exact .inl rfl
  · show ∃ v, execBurnBoostEnd s = .next v ∧ s.renderStands v
    rw [execBurnBoostEnd]
    refine answers ?_
    split
    · split
      · exact s.endDelivery_renderStands _ _
      · exact .inl rfl
    · exact .inl rfl

/-- ABORT_IMAGE leaves a label's band render alone. -/
theorem exec_abortImage_render (hlive : s.resetHeld = false) (h : s.rendersJob .image = false) :
    ∃ v, exec .abortImage s = .next v ∧ v.render = s.render := by
  refine ⟨_, State.act_live (fun s => if s.working then _ else _) hlive, ?_⟩
  rw [State.settle_render]
  split
  · exact (State.abortTail_render _ _).trans (State.abortImageJob_render_other h)
  · rfl

/-- ABORT_IMAGE marks the band render of an open image job to be cut (R134). -/
theorem exec_abortImage_cuts (hlive : s.resetHeld = false)
    (hworking : s.engine.state = .running ∨ s.engine.state = .draining) {j : ImageJob}
    (hj : s.image = some j) (hopen : j.report.status = none) (h : s.rendersJob .image = true) :
    ∃ v, exec .abortImage s = .next v ∧ v.render = s.render.map RenderRecord.toCut := by
  refine ⟨_, State.act_effect (f := fun s => if s.working then _ else _) hlive
    (if_pos (State.working_of hworking)), ?_⟩
  rw [State.settle_render, State.abortTail_render, (State.abortImageJob_render hj hopen).1,
    State.endImage_eq hj hopen, h]
  rfl

end Commands

end Sys2Proof.Machine

/-! SUPPORT. Who is granted the rasterizer, and the grant itself (O35). -/

namespace Sys2Proof.Machine

/-! ### ABORT_PRINT cuts the render of a label that is open -/

/-- A change of one label keeps which other label is found. -/
theorem State.findLabel_updateLabel_of_ne (s : State) {i k : Half} (h : i ≠ k)
    {f : LabelEntry → LabelEntry} (hf : ∀ l, (f l).ringIndex = l.ringIndex) :
    (s.updateLabel k f).findLabel i = s.findLabel i := by
  have hindex (l : LabelEntry) : (updateEntry k f l).ringIndex = l.ringIndex := by
    unfold updateEntry
    split
    · exact hf l
    · rfl
  unfold State.findLabel State.updateLabel
  rw [State.setLabels_labels, List.find?_map]
  have hsame : ((fun l => decide (l.ringIndex = i)) ∘ updateEntry k f) =
      fun l : LabelEntry => decide (l.ringIndex = i) := funext fun l => by
    rw [Function.comp, hindex]
  rw [hsame]
  cases hfound : s.labels.find? fun l => decide (l.ringIndex = i) with
  | none => rfl
  | some m =>
    have hm : m.ringIndex = i := by simpa using List.find?_some hfound
    exact congrArg some (if_neg (hm ▸ h))

theorem State.findLabel_of_labels {s t : State} (h : t.labels = s.labels) (i : Half) :
    t.findLabel i = s.findLabel i := by
  unfold State.findLabel
  rw [h]

theorem State.findLabel_stopLabelRender_of_ne (s : State) {i : Half} {l : LabelEntry}
    (h : i ≠ l.ringIndex) : (s.stopLabelRender l).findLabel i = s.findLabel i := by
  unfold State.stopLabelRender
  split
  · rfl
  · split
    · exact s.findLabel_updateLabel_of_ne (f := fun l => { l with renderStatus := .cut }) h fun _ => rfl
    · rfl

/-- The end of one label keeps which other label is found. -/
theorem State.findLabel_endLabel_of_ne (s : State) {i k : Half} (h : i ≠ k) (st : Status) (fi : Half) :
    (s.endLabel k st fi).findLabel i = s.findLabel i := by
  unfold State.endLabel
  split
  · rfl
  · next l hl =>
    have hlabel : l.ringIndex = k := by simpa using List.find?_some hl
    split
    · rfl
    · rw [State.findLabel_stopLabelRender_of_ne _ (hlabel ▸ h), State.dropPendingPad_eq]
      exact (State.findLabel_of_labels rfl i).trans (s.findLabel_updateLabel_of_ne h fun _ => rfl)

theorem State.renderCut_iff (s : State) :
    s.renderCut = true ↔ ∃ r, s.render = some r ∧ r.cutPending = true := by
  unfold State.renderCut
  cases s.render <;> simp

/-- A band render to be cut stays so at the end of any label (R76). -/
theorem State.renderStands.renderCut {s t : State} (h : s.renderStands t) (hcut : s.renderCut = true) :
    t.renderCut = true := by
  obtain ⟨r, hr, hc⟩ := s.renderCut_iff.1 hcut
  refine t.renderCut_iff.2 ?_
  obtain h | ⟨-, h⟩ := h
  · exact ⟨r, h.trans hr, hc⟩
  · exact ⟨r.toCut, by rw [h, hr]; rfl, rfl⟩

/-- The end of an open label in its band render marks the render to be cut (R76, R98). -/
theorem State.endLabel_renderCut {s : State} {i : Half} (hrenders : s.rendersJob (.label i) = true)
    {l : LabelEntry} (hl : s.findLabel i = some l) (hopen : l.printStatus ≠ .ended) (st : Status)
    (fi : Half) : (s.endLabel i st fi).renderCut = true := by
  have hlabel : l.ringIndex = i := by simpa using List.find?_some hl
  obtain ⟨r, hr, -⟩ := State.rendersJob_iff.1 hrenders
  rw [State.endLabel, hl]
  dsimp only
  rw [if_neg hopen, State.dropPendingPad_eq,
    State.stopLabelRender_of_renders (by rw [hlabel]; exact hrenders)]
  refine (State.renderCut_iff _).2 ⟨r.toCut, ?_, rfl⟩
  show s.render.map _ = _
  rw [hr]
  rfl

/-- A label's band render is to be cut, or the label is open still. -/
def State.cutOrOpen (s : State) (i : Half) : Prop :=
  s.rendersJob (.label i) = true ∧
    (s.renderCut = true ∨ ∃ l, s.findLabel i = some l ∧ l.printStatus ≠ .ended)

theorem State.cutOrOpen.endLabel {s : State} {i : Half} (h : s.cutOrOpen i) (k : Half) (st : Status)
    (fi : Half) : (s.endLabel k st fi).cutOrOpen i ∧ (k = i → (s.endLabel k st fi).renderCut = true) := by
  obtain ⟨hrenders, h⟩ := h
  have hstands := s.endLabel_render k st fi
  have hkept : (s.endLabel k st fi).rendersJob (.label i) = true := by
    rw [State.rendersJob_of_render (s := s) ?_, hrenders]
    obtain e | ⟨-, e⟩ := hstands
    · rw [e]
    · rw [e, Option.map_map]
      rfl
  obtain hcut | ⟨l, hl, hopen⟩ := h
  · have hcut' : (s.endLabel k st fi).renderCut = true := State.renderStands.renderCut hstands hcut
    exact ⟨⟨hkept, .inl hcut'⟩, fun _ => hcut'⟩
  · by_cases hk : k = i
    · subst hk
      have hcut := State.endLabel_renderCut hrenders hl hopen st fi
      exact ⟨⟨hkept, .inl hcut⟩, fun _ => hcut⟩
    · refine ⟨⟨hkept, .inr ⟨l, ?_, hopen⟩⟩, fun h => absurd h hk⟩
      rw [s.findLabel_endLabel_of_ne (Ne.symm hk), hl]

/-- ABORT_PRINT marks the band render of an open label to be cut (R120). -/
theorem State.abortLabels_renderCut {s : State} {l : LabelEntry} (honly : s.onlyLabel l)
    (hopen : l.printStatus ≠ .ended) (hrenders : s.rendersJob (.label l.ringIndex) = true) :
    s.abortLabels.renderCut = true := by
  have hfold : ∀ (ls : List LabelEntry) (t : State), t.cutOrOpen l.ringIndex →
      (l ∈ ls ∨ t.renderCut = true) →
      (ls.foldl (fun t m => t.endLabel m.ringIndex .aborted noObject) t).renderCut = true := by
    intro ls
    induction ls with
    | nil => exact fun t _ h => h.resolve_left List.not_mem_nil
    | cons m ls ih =>
      intro t ht h
      obtain ⟨hnext, hcut⟩ := ht.endLabel m.ringIndex .aborted noObject
      refine ih _ hnext ?_
      obtain h | h := h
      · obtain rfl | h := List.mem_cons.1 h
        · exact .inr (hcut rfl)
        · exact .inl h
      · exact .inr (State.renderStands.renderCut (t.endLabel_render _ _ _) h)
  exact hfold s.labels s ⟨hrenders, .inr ⟨l, State.findLabel_of_only honly, hopen⟩⟩ (.inl honly.1)

/-- The same of the command (R120). -/
theorem exec_abortPrint_cuts {s : State} (hlive : s.resetHeld = false)
    (hworking : s.engine.state = .running ∨ s.engine.state = .draining) {l : LabelEntry}
    (honly : s.onlyLabel l) (hopen : l.printStatus ≠ .ended)
    (hrenders : s.rendersJob (.label l.ringIndex) = true) :
    ∃ v, exec .abortPrint s = .next v ∧ v.renderCut = true := by
  refine ⟨_, State.act_effect (f := fun s => if s.working then _ else _) hlive
    (if_pos (State.working_of hworking)), ?_⟩
  have hcut := State.abortLabels_renderCut honly hopen hrenders
  rw [State.renderCut] at hcut ⊢
  rw [State.settle_render, State.abortTail_render]
  exact hcut

/-! ### A render that has gone into admission has left CLEAR -/

/-- A band render is in flight, and stands beyond its clear. -/
def State.beyondClear (s : State) : Prop := ∃ r, s.render = some r ∧ r.step ≠ .clear

section Beyond

variable {s : State} {p : SetupParams} {r : RenderRecord}

theorem State.endImage_render (s : State) (st : Status) (fi : Half) :
    (s.endImage st fi).render = s.render ∨
      (s.endImage st fi).render = s.render.map RenderRecord.toCut := by
  unfold State.endImage
  dsimp only
  split
  · exact .inr rfl
  · exact .inl rfl

theorem State.faultRender_beyondClear (h : r.step ≠ .clear) (st : Status) (n : Nat) :
    (s.faultRender r st n).beyondClear := by
  have hends : (s.faultRender r st n).render = some { r with read := .none } ∨
      (s.faultRender r st n).render = some { r with read := .none, cutPending := true } := by
    unfold State.faultRender State.endJob
    split
    · exact (State.endLabel_render _ _ _ _).imp_right (·.2)
    · exact State.endImage_render _ _ _
  obtain e | e := hends
  · exact ⟨_, e, h⟩
  · exact ⟨_, e, h⟩

theorem State.startPaint_beyondClear : (s.startPaint p r).beyondClear := by
  unfold State.startPaint State.applyPainting
  split
  · exact ⟨_, rfl, by simp⟩
  · exact ⟨_, rfl, by simp⟩
  · exact State.faultRender_beyondClear (by simp) _ _

theorem State.nextObject_beyondClear : (s.nextObject p r).beyondClear := by
  unfold State.nextObject
  dsimp only
  split
  · exact ⟨_, rfl, by simp⟩
  · exact State.startPaint_beyondClear

theorem State.startAdmission_beyondClear : (s.startAdmission p r).beyondClear := by
  unfold State.startAdmission
  split
  · unfold State.considerObject
    dsimp only
    split
    · exact State.startPaint_beyondClear
    · split
      · exact State.nextObject_beyondClear
      · split
        · exact State.nextObject_beyondClear
        · exact State.faultRender_beyondClear (by simp) _ _
  · exact State.nextObject_beyondClear

end Beyond

end Sys2Proof.Machine

/-! SUPPORT. The arbiter (O35): the FREE buffers, the two sides' requests, and an end of the job that waits
behind a grant. -/

namespace Sys2Proof.Machine

/-! ### The FREE buffers -/

theorem bufferIds_nodup : bufferIds.Nodup := by decide

section Free

variable {b : Bands} {i : BufferId}

theorem Bands.lowestFree_eq_none (h : ∀ k, (b.get k).state ≠ .free) : b.lowestFree = none := by
  rw [Bands.lowestFree, List.find?_eq_none]
  exact fun k _ => by simp [h k]

/-- The lowest-numbered FREE buffer (R63). -/
theorem Bands.lowestFree_eq_some (hi : (b.get i).state = .free)
    (hless : ∀ k < i, (b.get k).state ≠ .free) : b.lowestFree = some i := by
  rw [Bands.lowestFree, List.find?_eq_some_iff_append]
  refine ⟨by simp [hi], ?_⟩
  fin_cases i
  · exact ⟨[], [1, 2, 3], rfl, by simp⟩
  · exact ⟨[0], [2, 3], rfl, by simpa using hless 0 (by decide)⟩
  · refine ⟨[0, 1], [3], rfl, ?_⟩
    have h0 := hless 0 (by decide)
    have h1 := hless 1 (by decide)
    simp [h0, h1]
  · refine ⟨[0, 1, 2], [], rfl, ?_⟩
    have h0 := hless 0 (by decide)
    have h1 := hless 1 (by decide)
    have h2 := hless 2 (by decide)
    simp [h0, h1, h2]

theorem Bands.freeCount_pos (hi : (b.get i).state = .free) : 1 ≤ b.freeCount :=
  List.length_pos_of_mem (List.mem_filter.2 ⟨mem_bufferIds i, by simp [hi]⟩)

/-- A second FREE buffer beside one (R72). -/
theorem Bands.two_le_freeCount_iff (hi : (b.get i).state = .free) :
    2 ≤ b.freeCount ↔ ∃ k, k ≠ i ∧ (b.get k).state = .free := by
  have hnodup : (bufferIds.filter fun k => decide ((b.get k).state = .free)).Nodup :=
    bufferIds_nodup.filter _
  have hmem (k : BufferId) : k ∈ bufferIds.filter (fun k => decide ((b.get k).state = .free)) ↔
      (b.get k).state = .free := by simp [mem_bufferIds]
  rw [Bands.freeCount, ← List.toFinset_card_of_nodup hnodup]
  constructor
  · intro h
    obtain ⟨k, hk, hne⟩ := Finset.exists_mem_ne (Nat.lt_of_succ_le h) i
    exact ⟨k, hne, (hmem k).1 (List.mem_toFinset.1 hk)⟩
  · rintro ⟨k, hne, hk⟩
    exact Finset.one_lt_card.2 ⟨k, List.mem_toFinset.2 ((hmem k).2 hk), i,
      List.mem_toFinset.2 ((hmem i).2 hi), hne⟩

end Free

/-! ### The requests (R71, R72) -/

/-- A band is left while its first row lies in the grid (R12). -/
theorem lt_bandCount {k rows height : Nat} (hrow : k * height < rows) (hheight : 0 < height) :
    k < bandCount rows height := by
  rw [bandCount, ← Nat.succ_le_iff, Nat.le_div_iff_mul_le hheight, Nat.succ_mul]
  omega

section Requests

variable {s : State} {p : SetupParams} {i : BufferId}

theorem State.printRequest_eq {l : LabelEntry} (hmem : l ∈ s.labels)
    (hrendering : l.renderStatus = .rendering) (hopen : l.printStatus ≠ .ended)
    (hone : ∀ m ∈ s.labels, m.busy = true → m = l)
    (hleft : l.nextBand < bandCount l.length p.bandHeight) (hfree : 1 ≤ s.bands.freeCount) :
    s.printRequest p = some l := by
  have hbusy : l.busy = true := by simp [LabelEntry.busy, hrendering]
  have hcurrent : s.renderCurrent = some l := by
    cases h : s.renderCurrent with
    | none => exact absurd hbusy (List.find?_eq_none.1 h l hmem)
    | some m => rw [hone m (List.mem_of_find?_eq_some h) (List.find?_some h)]
  rw [State.printRequest, hcurrent]
  exact if_pos ⟨hrendering, hopen, hleft, hfree⟩

/-- With no label RENDERING the print side requests nothing (R71). -/
theorem State.printRequest_eq_none (h : ∀ l ∈ s.labels, l.renderStatus ≠ .rendering) :
    s.printRequest p = none := by
  cases hcurrent : s.renderCurrent with
  | none => rw [State.printRequest, hcurrent]
  | some l =>
    rw [State.printRequest, hcurrent]
    exact if_neg fun hl => h l (List.mem_of_find?_eq_some hcurrent) hl.1

theorem State.imageRequest_eq {j : ImageJob} (hj : s.image = some j) (hphase : j.phase = .requesting)
    (hopen : j.report.status = none) (hleft : j.nextBand < bandCount j.height p.bandHeight)
    (hi : (s.bands.get i).state = .free)
    (hreserve : s.labels = [] ∨ ∃ k, k ≠ i ∧ (s.bands.get k).state = .free) :
    s.imageRequest p = some j := by
  rw [State.imageRequest, hj]
  exact if_pos ⟨hphase, hopen, hleft, Bands.freeCount_pos hi,
    hreserve.symm.imp_left (Bands.two_le_freeCount_iff hi).2⟩

theorem State.imageRequest_eq_none (hi : (s.bands.get i).state = .free)
    (h : s.image = none ∨ (∃ j, s.image = some j ∧ (j.phase ≠ .requesting ∨ j.report.status ≠ none)) ∨
      (s.labels ≠ [] ∧ ∀ k, k ≠ i → (s.bands.get k).state ≠ .free)) : s.imageRequest p = none := by
  cases hj : s.image with
  | none => rw [State.imageRequest, hj]
  | some j =>
    rw [State.imageRequest, hj]
    refine if_neg ?_
    rintro ⟨hphase, hopen, -, -, hreserve⟩
    obtain h | ⟨j', hj', h⟩ | ⟨hlabels, hfull⟩ := h
    · rw [hj] at h
      cases h
    · rw [hj] at hj'
      cases hj'
      exact h.elim (· hphase) (· hopen)
    · obtain hreserve | hreserve := hreserve
      · obtain ⟨k, hne, hk⟩ := (Bands.two_le_freeCount_iff hi).1 hreserve
        exact hfull k hne hk
      · exact hlabels hreserve

end Requests

/-! ### An end of the job that waits (log 33) -/

section Waits

variable {s : State} {c : Instr} {rest : List Instr}

/-- The commands that can end the job of a render. -/
def jobEnders : List Instr := .abortImage :: labelEnders

theorem runJobEnd_of_mem (hc : c ∈ jobEnders) (s : State) : runJobEnd c s = exec c s := by
  simp only [jobEnders, labelEnders, List.mem_cons, List.not_mem_nil, or_false] at hc
  obtain rfl | rfl | rfl | rfl | rfl := hc <;> rfl

theorem runJobEnd_of_not_mem (hc : c ∉ jobEnders) (s : State) : runJobEnd c s = .next s := by
  unfold runJobEnd
  split <;> simp_all [jobEnders, labelEnders]

theorem State.endWaits_nil (h : s.pending = []) : s.endWaits = false := by
  rw [State.endWaits, h]

/-- The command that waits next ends the job when its run marks the render to be cut. -/
theorem State.endWaits_cons (h : s.pending = c :: rest) {v : State}
    (hrun : runJobEnd c (s.settle.setPending rest) = .next v) : s.endWaits = v.renderCut := by
  rw [State.endWaits, h]
  dsimp only
  rw [hrun]

/-- A command that ends no job leaves the render as it is. -/
theorem State.endWaits_of_not_mem (h : s.pending = c :: rest) (hc : c ∉ jobEnders) :
    s.endWaits = s.renderCut :=
  (State.endWaits_cons h (runJobEnd_of_not_mem hc (s.settle.setPending rest))).trans rfl

/-- A command in the way of which the render stands as it is. -/
theorem State.endWaits_of_render (h : s.pending = c :: rest) (hc : c ∈ jobEnders) {v : State}
    (hexec : exec c (s.settle.setPending rest) = .next v) (hv : v.render = s.render) :
    s.endWaits = s.renderCut := by
  rw [State.endWaits_cons h ((runJobEnd_of_mem hc _).trans hexec), State.renderCut, hv]
  rfl

end Waits

end Sys2Proof.Machine

/-! SUPPORT. The grant of the rasterizer (O35). -/

namespace Sys2Proof.Machine

section Grants

variable {s : State} {p : SetupParams}

theorem exec_rasterizerGrant (hlive : s.resetHeld = false) (hparams : s.engine.params = some p)
    (hworking : s.engine.state = .running ∨ s.engine.state = .draining) (hidle : s.render = none) :
    exec .rasterizerGrant s = .next (s.arbitrate p).settle := by
  show execRasterizerGrant s = _
  rw [execRasterizerGrant]
  refine State.act_effect hlive ?_
  simp only [hparams, State.working_of hworking, hidle, and_self, if_true]

/-- Without a free rasterizer or a FREE buffer, or outside RUNNING and DRAINING, nothing is granted (R63,
R73, R79). -/
theorem exec_rasterizerGrant_none (hlive : s.resetHeld = false)
    (h : s.render ≠ none ∨ (∀ i, (s.bands.get i).state ≠ .free) ∨
      (s.engine.state ≠ .running ∧ s.engine.state ≠ .draining)) :
    exec .rasterizerGrant s = .next s.settle := by
  show execRasterizerGrant s = _
  rw [execRasterizerGrant]
  refine State.act_effect hlive ?_
  split
  · rfl
  · next p hparams =>
    split
    · next hfree =>
      obtain ⟨hworks, hidle⟩ := hfree
      have hworking : s.engine.state = .running ∨ s.engine.state = .draining := by
        simpa [State.working] using hworks
      obtain h | h | ⟨h, h'⟩ := h
      · exact absurd hidle h
      · rw [State.arbitrate, Bands.lowestFree_eq_none h]
      · exact absurd hworking (by simp [h, h'])
    · rfl

/-- The arbiter does nothing, or begins a render, the image job claiming its buffer first (R73). -/
theorem State.arbitrate_cases (s : State) (p : SetupParams) : s.arbitrate p = s ∨
    ∃ (v : State) (side : Ring) (o : Owner) (i : BufferId) (k rows : Nat),
      v.pending = s.pending ∧ s.arbitrate p = v.grant p side o i k rows := by
  unfold State.arbitrate
  split
  · exact .inl rfl
  · next i _ =>
    split
    · next l _ => exact .inr ⟨s, _, _, _, _, _, rfl, rfl⟩
    · split
      · exact .inr ⟨s.updateImage (ImageJob.claim i), _, _, _, _, _, rfl, rfl⟩
      · exact .inl rfl

/-- A command that can end a job answers in the wrapper. -/
theorem exec_jobEnder {c : Instr} (hc : c ∈ jobEnders) (s : State) : ∃ v, exec c s = .next v := by
  simp only [jobEnders, labelEnders, List.mem_cons, List.not_mem_nil, or_false] at hc
  obtain rfl | rfl | rfl | rfl | rfl := hc <;> exact ⟨_, rfl⟩

/-- An end of the job that waits is a command that can end it, and its run marks the render to be cut. -/
theorem State.endWaits_run {c : Instr} {rest : List Instr} (hpending : s.pending = c :: rest)
    (hwaits : s.endWaits = true) (hcut : s.renderCut = false) :
    ∃ v, exec c (s.settle.setPending rest) = .next v ∧ v.renderCut = true := by
  by_cases hc : c ∈ jobEnders
  · obtain ⟨v, hv⟩ := exec_jobEnder hc (s.settle.setPending rest)
    refine ⟨v, hv, ?_⟩
    rw [← State.endWaits_cons hpending ((runJobEnd_of_mem hc _).trans hv), hwaits]
  · rw [State.endWaits_of_not_mem hpending hc, hcut] at hwaits
    cases hwaits

/-- A render that stands after its clear does so because the next command ends its job (log 33). -/
theorem State.grant_clear {side : Ring} {o : Owner} {i : BufferId} {k rows : Nat} {r : RenderRecord}
    {c : Instr} {rest : List Instr} (hpending : s.pending = c :: rest)
    (hr : (s.grant p side o i k rows).render = some r) (hclear : r.step = .clear) :
    r.read = .none ∧ r.cutPending = false ∧
      ∃ v, step (s.grant p side o i k rows).settle = .next v ∧ v.renderCut = true := by
  obtain ⟨hwaits, hgrant⟩ | ⟨-, hgrant, -⟩ := s.grant_cases p side o i k rows
  · rw [hgrant] at hr ⊢
    cases hr
    obtain ⟨v, hv, hcut⟩ := State.endWaits_run (s := s.beginRender p side o i k rows) hpending hwaits rfl
    exact ⟨rfl, rfl, v, (stepRunsFrontCommand c rest (s.beginRender p side o i k rows).settle
      hpending).trans hv, hcut⟩
  · rw [hgrant] at hr
    obtain ⟨q, hq, hstep⟩ :=
      State.startAdmission_beyondClear (s := s.beginRender p side o i k rows) (p := p)
        (r := grantRecord side o i k rows p.bandHeight)
    rw [hr] at hq
    cases hq
    exact absurd hclear hstep

/-- The boundary after the clear, seen from the queue (log 33). -/
theorem step_rasterizerGrant_clear {c : Instr} {rest : List Instr} {r : RenderRecord} {t : State}
    (hpending : s.pending = .rasterizerGrant :: c :: rest) (hidle : s.render = none)
    (hstep : step s = .next t) (hr : t.render = some r) (hclear : r.step = .clear) :
    r.read = .none ∧ r.cutPending = false ∧
      ∃ u r', step t = .next u ∧ u.render = some r' ∧ r'.cutPending = true := by
  let s' : State := { s with pending := c :: rest }
  have hne {u : State} (hu : u.render = s.render) (ht : t = u.settle) : False := by
    rw [ht, State.settle_render, hu, hidle] at hr
    cases hr
  have hexec : execRasterizerGrant s' = .next t := (stepRunsFrontCommand _ _ s hpending).symm.trans hstep
  obtain ⟨-, rfl⟩ | ⟨-, ht⟩ := State.act_next hexec
  · rw [show s'.render = none from hidle] at hr
    cases hr
  · have hgrant : ∃ p, t = (s'.arbitrate p).settle := by
      cases hparams : s'.engine.params with
      | none =>
        rw [hparams] at ht
        exact (hne (u := s') rfl ht).elim
      | some p =>
        rw [hparams] at ht
        dsimp only at ht
        split at ht
        · exact ⟨p, ht⟩
        · exact (hne (u := s') rfl ht).elim
    obtain ⟨p, rfl⟩ := hgrant
    obtain h | ⟨v, side, o, i, k, rows, hv, h⟩ := s'.arbitrate_cases p
    · exact (hne (u := s'.arbitrate p) (by rw [h]) rfl).elim
    · rw [h] at hr ⊢
      have hpend : v.pending = c :: rest := hv
      obtain ⟨hread, hcut, u, hu, hucut⟩ := State.grant_clear hpend hr hclear
      obtain ⟨r', hr', hcut'⟩ := u.renderCut_iff.1 hucut
      exact ⟨hread, hcut, u, r', hu, hr', hcut'⟩

theorem State.arbitrate_print {i : BufferId} {l : LabelEntry} (hi : s.bands.lowestFree = some i)
    (hl : s.printRequest p = some l) :
    s.arbitrate p = s.grant p .print (.label l.ringIndex) i l.nextBand l.length := by
  rw [State.arbitrate, hi]
  dsimp only
  rw [hl]

theorem State.arbitrate_image {i : BufferId} {j : ImageJob} (hi : s.bands.lowestFree = some i)
    (hnone : s.printRequest p = none) (hj : s.imageRequest p = some j) :
    s.arbitrate p = (s.updateImage (ImageJob.claim i)).grant p .image .image i j.nextBand j.height := by
  rw [State.arbitrate, hi]
  dsimp only
  rw [hnone, hj]

theorem State.arbitrate_none {i : BufferId} (hi : s.bands.lowestFree = some i)
    (hnone : s.printRequest p = none) (hnone' : s.imageRequest p = none) : s.arbitrate p = s := by
  rw [State.arbitrate, hi]
  dsimp only
  rw [hnone, hnone']

/-- A render begun in the state `u` after its clear stands there, or goes on into admission, by whether the
end of its job waits (R74, R76, log 33). -/
theorem State.grant_outcome {u : State} {side : Ring} {o : Owner} {i : BufferId} {k rows : Nat}
    (hu : s.beginRender p side o i k rows = u) :
    (u.endWaits = true → s.grant p side o i k rows = u) ∧
    (u.endWaits = false → AdmissionOutcome p (grantRecord side o i k rows p.bandHeight) u
      (s.grant p side o i k rows)) := by
  subst hu
  refine ⟨fun h => if_pos h, fun h => ?_⟩
  have hgrant : s.grant p side o i k rows = (s.beginRender p side o i k rows).startAdmission p
      (grantRecord side o i k rows p.bandHeight) := if_neg (by simp [h])
  rw [hgrant]
  exact State.startAdmission_outcome _ _ _

/-- Nothing that waits ends the job of a label's render but the label's own ends (log 33). -/
theorem State.endWaits_label {u : State} {r : RenderRecord} (hlive : u.resetHeld = false)
    (hr : u.render = some r) (hcut : r.cutPending = false) (hjob : r.job ≠ .image)
    (h : ∀ c rest, u.pending = c :: rest → c ∉ labelEnders) : u.endWaits = false := by
  have hopen : u.renderCut = false := by rw [State.renderCut, hr]; exact hcut
  cases hpending : u.pending with
  | nil => exact State.endWaits_nil hpending
  | cons c rest =>
    by_cases hc : c = .abortImage
    · subst hc
      have hother : (u.settle.setPending rest).rendersJob .image = false := by
        rw [Bool.eq_false_iff, ne_eq, State.rendersJob_iff]
        rintro ⟨q, hq, hjob'⟩
        rw [show (u.settle.setPending rest).render = some r from hr] at hq
        cases hq
        exact hjob hjob'
      obtain ⟨v, hv, hrender⟩ := exec_abortImage_render (s := u.settle.setPending rest) hlive hother
      rw [State.endWaits_of_render hpending (by simp [jobEnders]) hv hrender, hopen]
    · rw [State.endWaits_of_not_mem hpending, hopen]
      simp only [jobEnders, List.mem_cons, not_or]
      exact ⟨hc, h c rest hpending⟩

/-- Nothing that waits ends the image job of its render but ABORT_IMAGE (log 33). -/
theorem State.endWaits_image {u : State} {r : RenderRecord} (hlive : u.resetHeld = false)
    (hr : u.render = some r) (hcut : r.cutPending = false) (hjob : r.job = .image)
    (h : ∀ c rest, u.pending = c :: rest → c ≠ .abortImage) : u.endWaits = false := by
  have hopen : u.renderCut = false := by rw [State.renderCut, hr]; exact hcut
  cases hpending : u.pending with
  | nil => exact State.endWaits_nil hpending
  | cons c rest =>
    by_cases hc : c ∈ labelEnders
    · obtain ⟨v, hv, hstands⟩ := exec_labelEnder (s := u.settle.setPending rest) hlive hc
      have hrender : v.render = u.render := by
        obtain h | ⟨⟨k, hk⟩, -⟩ := hstands
        · exact h
        · obtain ⟨q, hq, hlabel⟩ := State.rendersJob_iff.1 hk
          rw [show (u.settle.setPending rest).render = some r from hr] at hq
          cases hq
          rw [hjob] at hlabel
          cases hlabel
      rw [State.endWaits_of_render hpending (by simp [jobEnders, hc]) hv hrender, hopen]
    · rw [State.endWaits_of_not_mem hpending, hopen]
      simp only [jobEnders, List.mem_cons, not_or]
      exact ⟨h c rest hpending, hc⟩

end Grants

/-- Settles O35: no grant; the boundary after the clear; and the two sides' grants by what waits. -/
theorem rasterizerGrants : Obligations.RasterizerGrants := by
  refine ⟨fun s hlive h => exec_rasterizerGrant_none hlive h,
    fun c rest r s t hpending hidle hstep hr hclear =>
      step_rasterizerGrant_clear hpending hidle hstep hr hclear, ?_⟩
  intro p i s hlive hparams hworking hidle hfree hless B filling record stands admits headEvents
  have hexec := exec_rasterizerGrant hlive hparams hworking hidle
  have hlowest := Bands.lowestFree_eq_some hfree hless
  refine ⟨?_, ?_, ?_⟩
  · intro l honly hrendering hopen hone hleft hheight r u
    have harbitrate := State.arbitrate_print hlowest (State.printRequest_eq (p := p) honly.1 hrendering
      hopen hone (lt_bandCount hleft hheight) (Bands.freeCount_pos hfree))
    rw [harbitrate] at hexec
    obtain ⟨hstands, hadmits⟩ := State.grant_outcome (s := s) (p := p) (side := .print)
      (o := .label l.ringIndex) (i := i) (k := l.nextBand) (rows := l.length) (u := u) rfl
    have hstand (h : u.endWaits = true) : stands u := by
      show exec .rasterizerGrant s = .next u.settle
      rw [hexec, hstands h]
    have hadmit (h : u.endWaits = false) : admits r u := ⟨_, hexec, hadmits h⟩
    refine ⟨fun h => hadmit ?_, fun rest hpending => hstand ?_, fun c rest hpending hc => ?_⟩
    · refine State.endWaits_label (u := u) (r := r) hlive rfl rfl (by simp [r, record]) ?_
      intro c rest hpending
      obtain ⟨hc, hc'⟩ := h c rest hpending
      exact fun hmem => (List.mem_cons.1 hmem).elim hc hc'
    · obtain ⟨v, hv, hcut⟩ := exec_abortPrint_cuts (s := u.settle.setPending rest) hlive hworking
        (l := l) honly hopen (State.rendersJob_iff.2 ⟨r, rfl, rfl⟩)
      rw [State.endWaits_cons (s := u) hpending hv, hcut]
    · obtain ⟨v, hv, hrender⟩ := exec_labelEnder (s := u.settle.setPending rest) hlive
        (List.mem_cons_of_mem Instr.abortPrint hc)
      have hrun := (runJobEnd_of_mem (List.mem_cons_of_mem Instr.abortImage
        (List.mem_cons_of_mem Instr.abortPrint hc)) (u.settle.setPending rest)).trans hv
      have hwaits : u.endWaits = v.renderCut := State.endWaits_cons (s := u) hpending hrun
      have answers {q : RenderRecord} (hq : v.render = some q) :
          ∃ v q, exec c { u.settle with pending := rest } = .next v ∧ v.render = some q ∧
            (q.cutPending = true → stands u) ∧ (q.cutPending = false → admits r u) := by
        rw [State.renderCut, hq] at hwaits
        exact ⟨v, q, hv, hq, fun h => hstand (hwaits.trans h), fun h => hadmit (hwaits.trans h)⟩
      obtain h | ⟨-, h⟩ := hrender
      · exact answers (q := r) h
      · exact answers (q := r.toCut) h
  · intro j hnone hj hphase hopen hleft hheight hreserve r u
    have harbitrate := State.arbitrate_image hlowest (State.printRequest_eq_none (p := p) hnone)
      (State.imageRequest_eq hj hphase hopen (lt_bandCount hleft hheight) hfree hreserve)
    rw [harbitrate] at hexec
    have hbegun : (s.updateImage (ImageJob.claim i)).beginRender p .image .image i j.nextBand
        j.height = u := by
      rw [State.updateImage, hj]
      rfl
    obtain ⟨hstands, hadmits⟩ := State.grant_outcome hbegun
    refine ⟨fun h => ⟨_, hexec, hadmits ?_⟩, fun rest hpending => ?_⟩
    · exact State.endWaits_image (u := u) (r := r) hlive rfl rfl rfl h
    · show exec .rasterizerGrant s = .next u.settle
      obtain ⟨v, hv, hcut⟩ := exec_abortImage_cuts (s := u.settle.setPending rest) hlive hworking rfl
        hopen (State.rendersJob_iff.2 ⟨r, rfl, rfl⟩)
      rw [hexec, hstands]
      rw [State.endWaits_cons (s := u) hpending hv, State.renderCut, hcut]
      rfl
  · intro hnone h
    rw [hexec, State.arbitrate_none hlowest (State.printRequest_eq_none hnone)
      (State.imageRequest_eq_none hfree h)]

end Sys2Proof.Machine
